-- ==== Sys2Proof/Word.lean ====
section
/-! DEFINITION. The word types of DVE and the constant `ONE` of its gain format (00_scope.md R6, R10, R11). -/

namespace Sys2Proof

/-- A command word, and the read data of the read port: 32 bits, bit 0 least significant (R6, R80, R64). -/
abbrev Word := BitVec 32

/-- One byte of a stored command trace (R64). -/
abbrev Byte := BitVec 8

/-- A frequency in hertz times 4096, unsigned, in 32 bits (R10). -/
abbrev Hz12 := BitVec 32

/-- A gain register: 25 bits, `g` standing for `g / 2^24` (R11). -/
abbrev Gain := BitVec 25

/-- `ONE = 2^24`, the gain value 1.0 (R11). -/
def gainOne : Nat := 16777216

end Sys2Proof
end

