-- ==== Sys2Proof/Syntax.lean ====
section
/-! DEFINITION. The commands of DVE: one constructor of `Instr` for each row of spec/opcode_table.json
(30_encoding.md R81), its operands as the integers R82 and R85 assemble. -/

namespace Sys2Proof

/-- The voice an FV command names: voice 1 (`osc1`) or voice 2 (`osc2`) (R82, R110). -/
inductive Voice where
  | one
  | two
deriving DecidableEq, Repr

/-- The radial zones of the control disk, in the order of their codes 0 to 3 (R223). -/
inductive Zone where
  | toggle
  | osc
  | modSpeed
  | filtFreq
deriving DecidableEq, Repr

/-- A decoded command. Angles are in quarter degrees (R10). -/
inductive Instr where
  /-- `NOP` (R140) -/
  | nop
  /-- `START` (R141) -/
  | start
  /-- `BIND` (R225) -/
  | bind
  /-- `RDREG addr` (R150) -/
  | rdreg (addr : Nat)
  /-- `HIT note` (R148) -/
  | hit (note : Int)
  /-- `RELEASE` (R149) -/
  | release
  /-- `SETMOD pos` (R151) -/
  | setmod (pos : Nat)
  /-- `SETFILT pos` (R152) -/
  | setfilt (pos : Nat)
  /-- `SETOPT opt` (R153) -/
  | setopt (opt : Nat)
  /-- `SETWAVE v, idx` (R118) -/
  | setwave (v : Voice) (idx : Nat)
  /-- `SETOCT v, idx` (R119) -/
  | setoct (v : Voice) (idx : Nat)
  /-- `SETNOTE v, note` (R120) -/
  | setnote (v : Voice) (note : Int)
  /-- `GEOM radius` (R226) -/
  | geom (radius : Nat)
  /-- `PTR angle, dist` (R230) -/
  | ptr (angle : Int) (dist : Nat)
  /-- `ANG zone, angle` (R231) -/
  | ang (zone : Zone) (angle : Int)
  /-- `TILT fwd, side` (R233) -/
  | tilt (fwd side : Int)
  /-- `PUP` (R234) -/
  | pup
deriving DecidableEq, Repr

/-- The mnemonic of a command as the opcode table spells it (R81). -/
def Instr.mnemonic : Instr → String
  | .nop => "NOP"
  | .start => "START"
  | .bind => "BIND"
  | .rdreg _ => "RDREG"
  | .hit _ => "HIT"
  | .release => "RELEASE"
  | .setmod _ => "SETMOD"
  | .setfilt _ => "SETFILT"
  | .setopt _ => "SETOPT"
  | .setwave _ _ => "SETWAVE"
  | .setoct _ _ => "SETOCT"
  | .setnote _ _ => "SETNOTE"
  | .geom _ => "GEOM"
  | .ptr _ _ => "PTR"
  | .ang _ _ => "ANG"
  | .tilt _ _ => "TILT"
  | .pup => "PUP"

end Sys2Proof
end

