-- ==== Sys2Proof/Config.lean ====
section
/-! DEFINITION. The configuration record of a DVE (00_scope.md R5, 92_eei_decisions.md section 2): every
parameter the spec calls OPEN is a field here, and none has a value fixed by the model. A configuration is plain
data. `Config.testT` is the spec's own test configuration T (95_test_vectors.md section 1). -/

namespace Sys2Proof

/-- The construction-time parameters of one oscillator voice (R5, R110). `NW_v` and `NO_v` are the lengths of
the two lists. -/
structure VoiceConfig where
  /-- `WAVESET_v`: 3-bit waveform kind codes, opaque to DVE. -/
  waveSet : List (BitVec 3)
  /-- `OCTSET_v`: octave multipliers. -/
  octSet : List Nat
  /-- `BASE_v`, HZ12. -/
  base : Nat
  /-- `DETUNE_v`, signed HZ12. -/
  detune : Int
deriving DecidableEq, Repr

/-- One piece of the LFO shape: from phase `start` on the shape has the value `level`, until a later piece of the
list takes over. Every total function of the 32-bit phase is such a list
(`Laws.every_shape_is_a_list_of_pieces`), so `LFO_SHAPE` stays plain data without losing any shape (log 5). -/
structure LfoPiece where
  start : Nat
  level : Int
deriving DecidableEq, Repr

/-- The configuration record (R5). -/
structure Config where
  /-- `FS`, ticks per second. -/
  fs : Nat
  /-- Parameters of voice 1. -/
  voice1 : VoiceConfig
  /-- Parameters of voice 2. -/
  voice2 : VoiceConfig
  /-- `ATTACK`, ticks. -/
  attack : Nat
  /-- `HOLD`, ticks. -/
  hold : Nat
  /-- `RELEASE`, ticks. -/
  release : Nat
  /-- `RMUL`, the per-tick release factor times 2^32 (R33). -/
  rmul : Nat
  /-- `RAMP`, ticks. -/
  ramp : Nat
  /-- `MOD_MIN`, signed HZ12. -/
  modMin : Int
  /-- `MOD_STEP`, signed HZ12. -/
  modStep : Int
  /-- `FILT_MIN`, signed HZ12. -/
  filtMin : Int
  /-- `FILT_STEP`, units of 2^-6 square-root-hertz. -/
  filtStep : Nat
  /-- `Q_CFG`, 16 bits, opaque. -/
  qCfg : BitVec 16
  /-- `HP_EN`, 1 bit. -/
  hpEn : Bool
  /-- `HP_CUT`, HZ12. -/
  hpCut : Hz12
  /-- `DEPTH`, HZ12. -/
  depth : Nat
  /-- `MASTER`, gain format. -/
  master : Nat
  /-- `LFO_SHAPE`, as the list of its pieces. -/
  lfoShape : List LfoPiece
deriving DecidableEq, Repr

/-- The parameters of voice `v`. -/
def Config.voice (c : Config) : Voice → VoiceConfig
  | .one => c.voice1
  | .two => c.voice2

/-- Test configuration T (95_test_vectors.md section 1, 92_eei_decisions.md D35): a fixture of the spec, not a
property of the hardware. DESIGN CHOICE (unsafe): `State.reset` is the reset state of this configuration (log 2);
the statements range over every configuration. -/
def Config.testT : Config where
  fs := 1000
  voice1 := { waveSet := [0, 1, 2, 3], octSet := [1, 2, 4], base := 450560, detune := 0 }
  voice2 := { waveSet := [0, 1, 2, 3], octSet := [1, 2, 4], base := 450560, detune := 2048 }
  attack := 10
  hold := 5
  release := 30
  rmul := 3886247118
  ramp := 4
  modMin := 0
  modStep := 4096
  filtMin := 409600
  filtStep := 640
  qCfg := 0x0100
  hpEn := false
  hpCut := 0
  depth := 204800
  master := 16777216
  lfoShape := [{ start := 0, level := 32767 }, { start := 2147483648, level := -32767 }]

end Sys2Proof
end

