-- ==== Sys2Proof/WellFormed.lean ====
section
/-! DEFINITION. What is well formed: an instruction whose operands fit their fields (30_encoding.md R82, R100), and
a configuration that is a DVE (00_scope.md R5, 10_state.md R33). -/

namespace Sys2Proof

/-- `n` fits an unsigned field of `w` bits (R82). -/
def fitsUnsigned (w n : Nat) : Bool := decide (n < 2 ^ w)

/-- `x` fits a two's complement field of `w + 1` bits (R6, R82). -/
def fitsSigned (w : Nat) (x : Int) : Bool := decide (-(2 ^ w : Nat) ≤ x) && decide (x < (2 ^ w : Nat))

/-- Every operand has a value its field can hold (R82): "a signed operand out of its field's range, or an unsigned
one that does not fit, is an assembler error" (R100). -/
def Instr.wellFormed : Instr → Bool
  | .nop => true
  | .start => true
  | .bind => true
  | .rdreg addr => fitsUnsigned 8 addr
  | .hit note => fitsSigned 7 note
  | .release => true
  | .setmod pos => fitsUnsigned 4 pos
  | .setfilt pos => fitsUnsigned 4 pos
  | .setopt opt => fitsUnsigned 4 opt
  | .setwave _ idx => fitsUnsigned 8 idx
  | .setoct _ idx => fitsUnsigned 8 idx
  | .setnote _ note => fitsSigned 7 note
  | .geom radius => fitsUnsigned 12 radius
  | .ptr angle dist => fitsSigned 11 angle && fitsUnsigned 12 dist
  | .ang _ angle => fitsSigned 11 angle
  | .tilt fwd side => fitsSigned 11 fwd && fitsSigned 11 side
  | .pup => true

/-- The constraints of R5 on one voice. -/
abbrev VoiceConfig.Limits (v : VoiceConfig) : Prop :=
  1 ≤ v.waveSet.length ∧ v.waveSet.length ≤ 8 ∧
  1 ≤ v.octSet.length ∧ v.octSet.length ≤ 8 ∧ (∀ m ∈ v.octSet, 1 ≤ m ∧ m ≤ 255) ∧
  1 ≤ v.base ∧ v.base < 2 ^ 32 ∧
  -(2 ^ 31 : Int) ≤ v.detune ∧ v.detune < 2 ^ 31

/-- The constraints of the table of R5 on the numeric parameters; the widths of `Q_CFG`, `HP_EN`, `HP_CUT` and of
the kind codes are in their types. -/
abbrev Config.Limits (c : Config) : Prop :=
  (1 ≤ c.fs ∧ c.fs < 2 ^ 32) ∧
  c.voice1.Limits ∧ c.voice2.Limits ∧
  (c.attack < 2 ^ 30 ∧ c.hold < 2 ^ 30 ∧ c.release < 2 ^ 30) ∧
  (c.rmul < 2 ^ 32 ∧ (c.release = 0 → c.rmul = 0)) ∧
  c.ramp < 2 ^ 16 ∧
  (-(2 ^ 31 : Int) ≤ c.modMin ∧ c.modMin < 2 ^ 31) ∧
  (-(2 ^ 31 : Int) ≤ c.modStep ∧ c.modStep < 2 ^ 31) ∧
  (-(2 ^ 31 : Int) ≤ c.filtMin ∧ c.filtMin < 2 ^ 31) ∧
  c.filtStep < 2 ^ 16 ∧
  c.depth < 2 ^ 31 ∧
  c.master ≤ gainOne ∧
  (∀ p ∈ c.lfoShape, -32767 ≤ p.level ∧ p.level ≤ 32767)

/-- The law that ties `RMUL` to `RELEASE` (R33): 0 if `RELEASE = 0`, else `floor(2^32 * exp(-3 / RELEASE))` with
the real exponential. -/
def Config.RmulTied (c : Config) : Prop :=
  (c.rmul : ℤ) = if c.release = 0 then 0 else ⌊(2 ^ 32 : ℝ) * Real.exp (-3 / (c.release : ℝ))⌋

/-- "A configuration that breaks a constraint is not a DVE" (R5, R304). -/
structure Config.WellFormed (c : Config) : Prop where
  limits : c.Limits
  rmulTied : c.RmulTied

end Sys2Proof
end

