-- ==== Sys2Proof/Decode.lean ====
section
/-! DEFINITION. The decoder, total on words and on bytes and rejecting by name, and after it the encoder
(30_encoding.md R80 to R89). -/

namespace Sys2Proof

/-- Why a word is no command: the two encoding faults of R83. -/
inductive DecodeError where
  /-- unassigned opcode (R86) -/
  | illegalOp
  /-- assigned opcode, reserved payload bit set (R87) -/
  | reserved
deriving DecidableEq, Repr

/-- Why bytes of a stored trace hold no command at their front: fewer than four are left (log 9), or the word they
hold is none. -/
inductive TraceError where
  | truncated
  | badWord (e : DecodeError)
deriving DecidableEq, Repr

/-- The 17 assigned opcodes (R81). -/
inductive Opcode where
  | nop | start | bind | rdreg
  | hit | release | setmod | setfilt | setopt
  | setwave | setoct | setnote
  | geom | ptr | ang | tilt | pup
deriving DecidableEq, Repr

/-- `w[lo + len - 1 : lo]` as an unsigned integer (R6, R85). -/
def fieldU (w : Word) (lo len : Nat) : Nat := (w.extractLsb' lo len).toNat

/-- `sext` of `w[lo + len - 1 : lo]` (R6, R85). -/
def fieldS (w : Word) (lo len : Nat) : Int := (w.extractLsb' lo len).toInt

/-- The opcode byte of each command (R81). -/
def opcodeByte : Opcode → BitVec 8
  | .nop => 0x00
  | .start => 0x01
  | .bind => 0x02
  | .rdreg => 0x03
  | .hit => 0x10
  | .release => 0x11
  | .setmod => 0x12
  | .setfilt => 0x13
  | .setopt => 0x14
  | .setwave => 0x20
  | .setoct => 0x21
  | .setnote => 0x22
  | .geom => 0x30
  | .ptr => 0x31
  | .ang => 0x32
  | .tilt => 0x33
  | .pup => 0x34

/-- The opcode a byte is assigned to (R81), `none` for the values R86 lists as unassigned. -/
def opcodeOfByte (op : Nat) : Option Opcode :=
  match op with
  | 0x00 => some .nop
  | 0x01 => some .start
  | 0x02 => some .bind
  | 0x03 => some .rdreg
  | 0x10 => some .hit
  | 0x11 => some .release
  | 0x12 => some .setmod
  | 0x13 => some .setfilt
  | 0x14 => some .setopt
  | 0x20 => some .setwave
  | 0x21 => some .setoct
  | 0x22 => some .setnote
  | 0x30 => some .geom
  | 0x31 => some .ptr
  | 0x32 => some .ang
  | 0x33 => some .tilt
  | 0x34 => some .pup
  | _ => none

/-- The payload bits that are fields of the command's format (R84). -/
def fieldMask : Opcode → BitVec 24
  | .nop | .start | .bind | .release | .pup => 0x000000
  | .rdreg | .hit => 0x0000FF
  | .setmod | .setfilt | .setopt => 0x00000F
  | .setwave | .setoct | .setnote => 0x0001FF
  | .geom => 0x000FFF
  | .ptr | .tilt => 0xFFFFFF
  | .ang => 0x003FFF

/-- The payload bits that are set outside the fields of the format (R83 step 2). -/
def reservedBits (op : Opcode) (w : Word) : BitVec 24 := w.extractLsb' 0 24 &&& ~~~fieldMask op

/-- The voice operand `v = 1 + cmd[8]` (R82, R85). -/
def voiceField (w : Word) : Voice := if fieldU w 8 1 = 0 then .one else .two

/-- The zone a 2-bit code names (R82, format FZ; R223). -/
def zoneOfCode (code : Nat) : Zone :=
  match code with
  | 0 => .toggle
  | 1 => .osc
  | 2 => .modSpeed
  | _ => .filtFreq

/-- Operand assembly (R83 step 3, R82, R85). -/
def assemble (op : Opcode) (w : Word) : Instr :=
  match op with
  | .nop => .nop
  | .start => .start
  | .bind => .bind
  | .rdreg => .rdreg (fieldU w 0 8)
  | .hit => .hit (fieldS w 0 8)
  | .release => .release
  | .setmod => .setmod (fieldU w 0 4)
  | .setfilt => .setfilt (fieldU w 0 4)
  | .setopt => .setopt (fieldU w 0 4)
  | .setwave => .setwave (voiceField w) (fieldU w 0 8)
  | .setoct => .setoct (voiceField w) (fieldU w 0 8)
  | .setnote => .setnote (voiceField w) (fieldS w 0 8)
  | .geom => .geom (fieldU w 0 12)
  | .ptr => .ptr (fieldS w 12 12) (fieldU w 0 12)
  | .ang => .ang (zoneOfCode (fieldU w 12 2)) (fieldS w 0 12)
  | .tilt => .tilt (fieldS w 12 12) (fieldS w 0 12)
  | .pup => .pup

/-- Decoding of a command word: steps 1 to 3 of R83, in that order. -/
def decodeWord (w : Word) : Except DecodeError Instr :=
  match opcodeOfByte (fieldU w 24 8) with
  | none => .error .illegalOp
  | some op => if reservedBits op w = 0 then .ok (assemble op w) else .error .reserved

/-- The word four stored bytes hold, the byte of bits 7:0 first (R64). -/
def wordOfBytes (b0 b1 b2 b3 : Byte) : Word := b3 ++ b2 ++ b1 ++ b0

/-- The four bytes a word is stored as, the byte of bits 7:0 first (R64). -/
def bytesOfWord (w : Word) : List Byte :=
  [w.extractLsb' 0 8, w.extractLsb' 8 8, w.extractLsb' 16 8, w.extractLsb' 24 8]

/-- Decoding of a stored trace: the first command, and the bytes after it (R64). -/
def decodeBytes (bytes : List Byte) : Except TraceError (Instr × List Byte) :=
  match bytes with
  | b0 :: b1 :: b2 :: b3 :: rest =>
    match decodeWord (wordOfBytes b0 b1 b2 b3) with
    | .ok i => .ok (i, rest)
    | .error e => .error (.badWord e)
  | _ => .error .truncated

/-- The opcode of a command (R81). -/
def Instr.opcode : Instr → Opcode
  | .nop => .nop
  | .start => .start
  | .bind => .bind
  | .rdreg _ => .rdreg
  | .hit _ => .hit
  | .release => .release
  | .setmod _ => .setmod
  | .setfilt _ => .setfilt
  | .setopt _ => .setopt
  | .setwave _ _ => .setwave
  | .setoct _ _ => .setoct
  | .setnote _ _ => .setnote
  | .geom _ => .geom
  | .ptr _ _ => .ptr
  | .ang _ _ => .ang
  | .tilt _ _ => .tilt
  | .pup => .pup

/-- Bit 8 of an FV word: 0 for voice 1, 1 for voice 2 (R82). -/
def voiceBit : Voice → BitVec 1
  | .one => 0
  | .two => 1

/-- The 2-bit code of a zone (R223). -/
def zoneCode : Zone → BitVec 2
  | .toggle => 0
  | .osc => 1
  | .modSpeed => 2
  | .filtFreq => 3

/-- The payload of a command, its reserved bits 0 (R82, R100). -/
def Instr.payload : Instr → BitVec 24
  | .nop | .start | .bind | .release | .pup => 0
  | .rdreg addr => 0#16 ++ BitVec.ofNat 8 addr
  | .hit note => 0#16 ++ BitVec.ofInt 8 note
  | .setmod pos => 0#20 ++ BitVec.ofNat 4 pos
  | .setfilt pos => 0#20 ++ BitVec.ofNat 4 pos
  | .setopt opt => 0#20 ++ BitVec.ofNat 4 opt
  | .setwave v idx => 0#15 ++ voiceBit v ++ BitVec.ofNat 8 idx
  | .setoct v idx => 0#15 ++ voiceBit v ++ BitVec.ofNat 8 idx
  | .setnote v note => 0#15 ++ voiceBit v ++ BitVec.ofInt 8 note
  | .geom radius => 0#12 ++ BitVec.ofNat 12 radius
  | .ptr angle dist => BitVec.ofInt 12 angle ++ BitVec.ofNat 12 dist
  | .ang zone angle => 0#10 ++ zoneCode zone ++ BitVec.ofInt 12 angle
  | .tilt fwd side => BitVec.ofInt 12 fwd ++ BitVec.ofInt 12 side

/-- The word of a command: opcode byte, then payload (R80, R100). -/
def encode (i : Instr) : Word := opcodeByte i.opcode ++ i.payload

/-- What the decoder reads from the stored bytes of an instruction whose bits are `w` (bits from `nbits` up are 0);
every row of the opcode table has 32 bits. -/
def decodeTableWord (nbits w : Nat) : Option Instr :=
  match decodeBytes (bytesOfWord (BitVec.ofNat 32 (w % 2 ^ nbits))) with
  | .ok (i, _) => some i
  | .error _ => none

end Sys2Proof
end

