-- ==== Sys2Proof/Machine/Pitch.lean ====
section
/-! DEFINITION. Clamping and rounding (00_scope.md R7 to R9) and the pitch law of a voice (40_voice.md R112, R113).
Lean's `/` and `%` on `Int` with a positive divisor are the floor quotient and the Euclidean remainder of R7. -/

namespace Sys2Proof.Machine

/-- `clamp(x, lo, hi)` (R8). -/
def clamp (x lo hi : Int) : Int := if x < lo then lo else if hi < x then hi else x

/-- `clamp32(x)`, as the 32-bit value it is written as (R8). -/
def clamp32 (x : Int) : Hz12 := BitVec.ofInt 32 (clamp x 0 (2 ^ 32 - 1))

/-- `ceil(a / b) = -floor(-a / b)` for `b > 0` (R7). -/
def ceilDiv (a b : Int) : Int := -((-a) / b)

/-- `round_half_up(p / q)` for `q > 0` (R9). -/
def roundHalfUp (p q : Int) : Int := (2 * p + q) / (2 * q)

/-- The twelve literals of the semitone table (R112). -/
def semi : List Nat :=
  [1073741824, 1137589835, 1205234447, 1276901417, 1352829926, 1433273380,
   1518500250, 1608794974, 1704458901, 1805811301, 1913190429, 2026954652]

/-- `SEMI[k]` (R112). -/
def semiAt (k : Nat) : Nat := semi.getD k 0

/-- `OCTSET_v[i]` (R5, R24); 0 for an index outside the set, which no register holds in a reachable state
(log 6). -/
def octMulAt (vc : VoiceConfig) (i : Nat) : Nat := vc.octSet.getD i 0

/-- `WAVESET_v[i]` (R5, R24); 0 for an index outside the set (log 6). -/
def waveKindAt (vc : VoiceConfig) (i : Nat) : BitVec 3 := vc.waveSet.getD i 0

/-- `raw`, the un-detuned frequency of R113: `floor(num * 2^e / 2^30)`. -/
def rawPitch (vc : VoiceConfig) (note : Int) (oidx : Nat) : Nat :=
  let k := (note % 12).toNat
  let e := note / 12
  let num := vc.base * semiAt k * octMulAt vc oidx
  if 0 ≤ e then num * 2 ^ e.toNat / 2 ^ 30 else num / 2 ^ (30 + (-e).toNat)

/-- `pitch(v, note, oidx)` (R113). -/
def pitch (vc : VoiceConfig) (note : Int) (oidx : Nat) : Hz12 :=
  clamp32 ((rawPitch vc note oidx : Int) + vc.detune)

end Sys2Proof.Machine
end

