-- ==== Sys2Proof/Machine/State.lean ====
section
/-! DEFINITION. The state of DVE (10_state.md R20 to R42), its faults, the events, and the state after reset
(10_state.md R54, 70_reset_and_hazards.md R300). -/

namespace Sys2Proof.Machine

/-- `MODE`: 0 PLAY, 1 EDIT (R27). -/
inductive Mode where
  | play
  | edit
deriving DecidableEq, Repr

/-- `ENV_STATE`, in the order of its codes 0 to 3 (R28). -/
inductive EnvState where
  | idle
  | attacking
  | holding
  | releasing
deriving DecidableEq, Repr

/-- The seven fault causes, in the order of their codes 1 to 7 (60_exceptions.md R271). A DVE fault is recorded in
registers and is an ordinary next state (R272, R273). -/
inductive FaultCode where
  | illegalOp
  | reserved
  | doubleStart
  | notStarted
  | doubleBind
  | notBound
  | badReg
deriving DecidableEq, Repr

/-- The two ramp units (R35). -/
inductive RampId where
  /-- `MOD`, the modulation rate. -/
  | modRate
  /-- `CUT`, the filter cutoff before modulation. -/
  | cutoff
deriving DecidableEq, Repr

/-- What the environment can present (20_memory.md R60; reset: 70_reset_and_hazards.md R300). -/
inductive Event where
  /-- `CMD(w)`. -/
  | cmd (w : Word)
  /-- `TICK`. -/
  | tick
  /-- The reset event. -/
  | reset
deriving DecidableEq, Repr

/-- Why a step could stop the machine: never. Empty, because the step function of DVE is total (R60): its own
faults are recorded in `FAULT`, `FCODE`, `FCMD` and the machine goes on (R273). Safe: nothing is cut off
(log 13). -/
inductive Fault where
deriving DecidableEq, Repr

/-- Why an instruction could have no meaning. -/
inductive Refusal where
  /-- Raised by an arm of `exec` for an instruction without a meaning yet; no arm does. Safe: a claim about such
  an instruction could not be proved. -/
  | notModelled (mnemonic : String)
deriving DecidableEq, Repr

/-- The registers of one voice (R23). -/
structure VoiceState where
  /-- `WIDX_v` -/
  widx : BitVec 3
  /-- `OIDX_v` -/
  oidx : BitVec 3
  /-- `NOTE_v`, two's complement -/
  note : BitVec 8
  /-- `FREQ_v` -/
  freq : Hz12
deriving DecidableEq, Repr

/-- The registers of one ramp unit (R35). -/
structure RampUnit where
  /-- `U.CUR` -/
  cur : Hz12
  /-- `U.START` -/
  start : Hz12
  /-- `U.TGT` -/
  tgt : Hz12
  /-- `U.RC` -/
  rc : BitVec 16
  /-- `U.ACT` -/
  act : Bool
deriving DecidableEq, Repr

/-- The machine. The fields from `voice1` to `fcmd` are the registers of R20; the last four lines hold what a step
shows and reads beside them. -/
structure State where
  /-- The configuration: no register, a parameter that no step writes (R5, R20; log 2). -/
  cfg : Config
  /-- `WIDX_1`, `OIDX_1`, `NOTE_1`, `FREQ_1` (R23) -/
  voice1 : VoiceState
  /-- `WIDX_2`, `OIDX_2`, `NOTE_2`, `FREQ_2` (R23) -/
  voice2 : VoiceState
  /-- `RUN` (R25) -/
  run : Bool
  /-- `BOUND` (R26) -/
  bound : Bool
  /-- `MODE` (R27) -/
  mode : Mode
  /-- `ENV_STATE` (R28) -/
  envState : EnvState
  /-- `ENV` (R29) -/
  env : Gain
  /-- `ENV_E0` (R30) -/
  envE0 : Gain
  /-- `ENV_CNT` (R30) -/
  envCnt : BitVec 31
  /-- `MODPOS` (R34) -/
  modPos : BitVec 4
  /-- `FILTPOS` (R34) -/
  filtPos : BitVec 4
  /-- Ramp unit `MOD` (R35) -/
  modUnit : RampUnit
  /-- Ramp unit `CUT` (R35) -/
  cutUnit : RampUnit
  /-- `PH` (R36) -/
  ph : BitVec 32
  /-- `GEOM_R` (R37) -/
  geomR : BitVec 12
  /-- `VIS` (R38) -/
  vis : BitVec 32
  /-- `VIS_PEND` (R38) -/
  visPend : Bool
  /-- `FAULT` (R40) -/
  fault : Bool
  /-- `FCODE` (R40) -/
  fcode : BitVec 4
  /-- `FCMD` (R40) -/
  fcmd : Word
  /-- `rdata_o` of the event just executed (R52; log 3) -/
  rdata : Word
  /-- `redraw_o` of the event just executed (R52; log 3) -/
  redraw : Bool
  /-- `visoff_o` of the event just executed (R52; log 3) -/
  visoff : Bool
  /-- The event trace still to come, first event first: the environment's, no register (R20, R21; log 1) -/
  input : List Event
deriving DecidableEq, Repr

/-- A voice after reset: first entries, root note, `FREQ_v = pitch(v, 0, 0)` (R54). -/
def VoiceState.resetOf (vc : VoiceConfig) : VoiceState where
  widx := 0
  oidx := 0
  note := 0
  freq := pitch vc 0 0

/-- A ramp unit after reset: at rest at `clamp32` of its map's value for position 0 (R54). -/
def RampUnit.resetOf (value : Int) : RampUnit where
  cur := clamp32 value
  start := clamp32 value
  tgt := clamp32 value
  rc := 0
  act := false

/-- `reset_state(cfg)`, the table of R54 (R300), with no output pulsed and nothing to come. -/
def State.resetOf (c : Config) : State where
  cfg := c
  voice1 := VoiceState.resetOf c.voice1
  voice2 := VoiceState.resetOf c.voice2
  run := false
  bound := false
  mode := .play
  envState := .idle
  env := 0
  envE0 := 0
  envCnt := 0
  modPos := 0
  filtPos := 0
  modUnit := RampUnit.resetOf c.modMin
  cutUnit := RampUnit.resetOf c.filtMin
  ph := 0
  geomR := 0
  vis := 0
  visPend := false
  fault := false
  fcode := 0
  fcmd := 0
  rdata := 0
  redraw := false
  visoff := false
  input := []

/-- The machine right after reset. DESIGN CHOICE (unsafe): its configuration is the spec's test configuration T
(log 2); `State.resetOf` is the reset state of any other. -/
def State.reset : State := State.resetOf Config.testT

end Sys2Proof.Machine
end

