-- ==== Sys2Proof/Machine/Ops.lean ====
section
/-! DEFINITION. The named operations over the state: reading and writing a voice or a ramp unit, taking the next
event, and `raise Fault`, DVE's one form of exception entry (60_exceptions.md R272). There is no return from a
fault: no command restores or clears the fault registers (R273, R279). -/

namespace Sys2Proof.Machine

/-- The first of two values for voice 1, the second for voice 2. -/
def pickVoice {α : Type} : Voice → α → α → α
  | .one, a, _ => a
  | .two, _, b => b

/-- The first of two values for unit `MOD`, the second for unit `CUT`. -/
def pickRamp {α : Type} : RampId → α → α → α
  | .modRate, a, _ => a
  | .cutoff, _, b => b

/-- The registers of voice `v` (R23). -/
def State.voice (s : State) (v : Voice) : VoiceState := pickVoice v s.voice1 s.voice2

/-- Write the registers of voice `v`; the other voice keeps its own (R110). -/
def State.setVoice (s : State) (v : Voice) (x : VoiceState) : State :=
  { s with voice1 := pickVoice v x s.voice1, voice2 := pickVoice v s.voice2 x }

/-- The registers of ramp unit `u` (R35). -/
def State.rampUnit (s : State) (u : RampId) : RampUnit := pickRamp u s.modUnit s.cutUnit

/-- Write the registers of ramp unit `u`; the other unit keeps its own. -/
def State.setRampUnit (s : State) (u : RampId) (x : RampUnit) : State :=
  { s with modUnit := pickRamp u x s.modUnit, cutUnit := pickRamp u s.cutUnit x }

/-- The number of a fault cause (R271). -/
def faultNumber : FaultCode → BitVec 4
  | .illegalOp => 1
  | .reserved => 2
  | .doubleStart => 3
  | .notStarted => 4
  | .doubleBind => 5
  | .notBound => 6
  | .badReg => 7

/-- `raise Fault(code)` in a command whose word is `w` (R272): the first fault is recorded, a later one is not,
and nothing else changes. The command ends with this state. -/
def raiseFault (code : FaultCode) (w : Word) (s : State) : State :=
  { s with
    fault := true
    fcode := if s.fault then s.fcode else faultNumber code
    fcmd := if s.fault then s.fcmd else w }

/-- The state in which an event is executed: the environment's trace goes on with `rest`, the pulse lines are 0 and
the read data is 0 unless the event sets them (R52, R83). -/
def State.beginEvent (s : State) (rest : List Event) : State :=
  { s with rdata := 0, redraw := false, visoff := false, input := rest }

/-- The next event of the trace and the state it is executed in (R61); `none` where the environment presents no
event. -/
def State.fetch (s : State) : Option (Event × State) :=
  match s.input with
  | [] => none
  | e :: rest => some (e, s.beginEvent rest)

/-- A step in which the environment presents no event: no register changes and no line is pulsed.
DESIGN CHOICE (safe): the spec says nothing of it (log 1). -/
def idleStep (s : State) : State := s.beginEvent []

/-- The reset event (R300): every register to its reset value, whatever the state before. The configuration and
the environment's trace are no state (R20) and stay. -/
def resetEvent (s : State) : State := { State.resetOf s.cfg with input := s.input }

end Sys2Proof.Machine
end

