-- ==== Sys2Proof/Machine/Operands.lean ====
section
/-! DEFINITION. The pure functions of the commands and of the read port: the mapping functions of the control
surface decoder (43_decoder.md R221 to R224), the two knob maps (41_engine.md R144, R145), and the derived values
(10_state.md R24; 40_voice.md R117; 41_engine.md R154; 42_tick.md R193, R194). -/

namespace Sys2Proof.Machine

/-- `note_of(a)` (R221). -/
def noteOf (a : Int) : Int := (a + 1860) / 120 % 12

/-- `knob_of(a)` (R222). -/
def knobOf (a : Int) : Int := ceilDiv (a + 1680) 120 % 12

/-- `zone_of(d, r)` (R223). -/
def zoneOf (d r : Nat) : Zone :=
  if 15 * d ≤ 4 * r then .toggle
  else if 2 * d ≤ r then .osc
  else if 6 * d ≤ 5 * r then .modSpeed
  else .filtFreq

/-- `tilt_pos(t)` (R224). -/
def tiltPos (t : Int) : Int := (clamp t 0 360 + 15) / 30

/-- The linear knob map of the modulation rate (R144). -/
def modTarget (c : Config) (pos : Nat) : Hz12 := clamp32 (c.modMin + c.modStep * pos)

/-- The quadratic knob map of the cutoff (R145). -/
def filtTarget (c : Config) (pos : Nat) : Hz12 := clamp32 (c.filtMin + (c.filtStep * pos : Nat) ^ 2)

/-- `WAVE_v` (R24). -/
def waveKind (s : State) (v : Voice) : BitVec 3 := waveKindAt (s.cfg.voice v) (s.voice v).widx.toNat

/-- `OCTMUL_v` (R24). -/
def octMul (s : State) (v : Voice) : Nat := octMulAt (s.cfg.voice v) (s.voice v).oidx.toNat

/-- `OPTMASK_v` (R117). -/
def optMask (s : State) (v : Voice) : BitVec 16 :=
  (1#16 <<< (s.voice v).widx.toNat) |||
    (1#16 <<< ((s.cfg.voice v).waveSet.length + (s.voice v).oidx.toNat))

/-- `NOTELEN` (R32, R154), in ticks. -/
def noteLen (c : Config) : Nat := c.attack + c.hold + c.release

/-- `LFO_SHAPE(ph)` (R5, R193): the level of the last piece that starts at or before the phase, 0 before the first
piece (log 5). -/
def lfoShapeAt (pieces : List LfoPiece) (phase : Nat) : Int :=
  pieces.foldl (fun level p => if p.start ≤ phase then p.level else level) 0

/-- `LFO_OUT` (R193). -/
def lfoOut (s : State) : Int :=
  if s.run then (s.cfg.depth : Int) * lfoShapeAt s.cfg.lfoShape s.ph.toNat / 2 ^ 15 else 0

/-- `CUT_OUT` (R194). -/
def cutOut (s : State) : Hz12 := clamp32 ((s.cutUnit.cur.toNat : Int) + lfoOut s)

end Sys2Proof.Machine
end

