-- ==== Sys2Proof/Machine/Voice.lean ====
section
/-! DEFINITION. The oscillator voice (40_voice.md): the operations `voice_setwave`, `voice_setoct`, `voice_setnote`
(R114 to R116) and the commands `SETWAVE`, `SETOCT`, `SETNOTE` (R118 to R120). -/

namespace Sys2Proof.Machine

/-- `voice_setwave(v, idx)` (R114). -/
def voiceSetWave (v : Voice) (idx : Nat) (s : State) : State :=
  s.setVoice v { s.voice v with widx := BitVec.ofNat 3 (idx % (s.cfg.voice v).waveSet.length) }

/-- `voice_setoct(v, idx)` (R115): the frequency is computed anew from the stored note. -/
def voiceSetOct (v : Voice) (idx : Nat) (s : State) : State :=
  s.setVoice v { s.voice v with
    oidx := BitVec.ofNat 3 (idx % (s.cfg.voice v).octSet.length)
    freq := pitch (s.cfg.voice v) (s.voice v).note.toInt (idx % (s.cfg.voice v).octSet.length) }

/-- `voice_setnote(v, note)` (R116). -/
def voiceSetNote (v : Voice) (note : Int) (s : State) : State :=
  s.setVoice v { s.voice v with
    note := BitVec.ofInt 8 note
    freq := pitch (s.cfg.voice v) note (s.voice v).oidx.toNat }

/-- `SETWAVE v, idx` (R118). -/
def execSetwave (v : Voice) (idx : Nat) (s : State) : Host.Outcome State Fault Refusal :=
  .next (voiceSetWave v idx s)

/-- `SETOCT v, idx` (R119). -/
def execSetoct (v : Voice) (idx : Nat) (s : State) : Host.Outcome State Fault Refusal :=
  .next (voiceSetOct v idx s)

/-- `SETNOTE v, note` (R120). -/
def execSetnote (v : Voice) (note : Int) (s : State) : Host.Outcome State Fault Refusal :=
  .next (voiceSetNote v note s)

end Sys2Proof.Machine
end

