-- ==== Sys2Proof/Machine/Engine.lean ====
section
/-! DEFINITION. The synth engine (41_engine.md): the internal operations R142 to R147 and the commands `HIT`,
`RELEASE`, `SETMOD`, `SETFILT`, `SETOPT` (R148, R149, R151 to R153). -/

namespace Sys2Proof.Machine

/-- The envelope half of `do_hit` (R142): the ramp starts from the current gain, and with `ATTACK = 0` the gain is
`ONE` at once. -/
def startAttack (s : State) : State :=
  { s with
    envE0 := s.env
    envCnt := 0
    env := if s.cfg.attack = 0 then BitVec.ofNat 25 gainOne else s.env
    envState :=
      if s.cfg.attack = 0 then (if 0 < s.cfg.hold then .holding else .releasing) else .attacking }

/-- `do_hit(note)` (R142). -/
def doHit (note : Int) (s : State) : State :=
  startAttack (voiceSetNote .two note (voiceSetNote .one note s))

/-- `do_release()` (R143). -/
def doRelease (s : State) : State :=
  { s with
    envState := match s.envState with
      | .attacking => .releasing
      | .holding => .releasing
      | .idle => .idle
      | .releasing => .releasing }

/-- The registers of a ramp unit after `ramp_set(U, new)` (R146). -/
def requestRamp (ramp : Nat) (new : Hz12) (u : RampUnit) : RampUnit where
  cur := if ramp = 0 then new else u.cur
  start := u.cur
  tgt := new
  rc := 0
  act := decide (ramp ≠ 0)

/-- `ramp_set(U, new)` (R146). -/
def rampSet (u : RampId) (new : Hz12) (s : State) : State :=
  s.setRampUnit u (requestRamp s.cfg.ramp new (s.rampUnit u))

/-- `do_setmod(pos)` (R144). -/
def doSetMod (pos : Nat) (s : State) : State :=
  rampSet .modRate (modTarget s.cfg pos) { s with modPos := BitVec.ofNat 4 pos }

/-- `do_setfilt(pos)` (R145). -/
def doSetFilt (pos : Nat) (s : State) : State :=
  rampSet .cutoff (filtTarget s.cfg pos) { s with filtPos := BitVec.ofNat 4 pos }

/-- What a band value `j` in 0 .. 5 selects on voice `v` (R147): 0 to 2 a waveform, 3 to 5 an octave. -/
def selectBand (v : Voice) (j : Nat) (s : State) : State :=
  if j < 3 then voiceSetWave v j s else voiceSetOct v (j - 3) s

/-- `do_setopt(opt)` (R147). -/
def doSetOpt (opt : Nat) (s : State) : State :=
  if opt % 12 < 6 then selectBand .one (opt % 12) s else selectBand .two (11 - opt % 12) s

/-- `HIT note` (R148). -/
def execHit (note : Int) (s : State) : Host.Outcome State Fault Refusal :=
  .next (if s.run then doHit note s else raiseFault .notStarted (encode (.hit note)) s)

/-- `RELEASE` (R149). -/
def execRelease (s : State) : Host.Outcome State Fault Refusal :=
  .next (if s.run then doRelease s else raiseFault .notStarted (encode .release) s)

/-- `SETMOD pos` (R151). -/
def execSetmod (pos : Nat) (s : State) : Host.Outcome State Fault Refusal :=
  .next (doSetMod pos s)

/-- `SETFILT pos` (R152). -/
def execSetfilt (pos : Nat) (s : State) : Host.Outcome State Fault Refusal :=
  .next (doSetFilt pos s)

/-- `SETOPT opt` (R153). -/
def execSetopt (opt : Nat) (s : State) : Host.Outcome State Fault Refusal :=
  .next (doSetOpt opt s)

end Sys2Proof.Machine
end

