-- ==== Sys2Proof/Machine/Surface.lean ====
section
/-! DEFINITION. The control surface decoder (43_decoder.md): the mode toggle, `dispatch` (R227 to R229) and the
commands `GEOM`, `PTR`, `ANG`, `TILT`, `PUP` (R226, R230, R231, R233, R234); `BIND` stands in System.lean. -/

namespace Sys2Proof.Machine

/-- `MODE xor 1` (R228). -/
def flipMode : Mode → Mode
  | .play => .edit
  | .edit => .play

/-- The mode toggle: `MODE` flips and `redraw_o` is pulsed, nothing else (R227). -/
def toggleMode (s : State) : State := { s with mode := flipMode s.mode, redraw := true }

/-- The visual-off timer loaded by a decoder hit, replacing what it held (R229). -/
def armVisOff (s : State) : State :=
  { s with vis := BitVec.ofNat 32 (noteLen s.cfg), visPend := true }

/-- `dispatch(zone, a)` in a command whose word is `w` (R228). -/
def dispatch (w : Word) (zone : Zone) (a : Int) (s : State) : State :=
  match zone, s.mode with
  | .toggle, _ => toggleMode s
  | .osc, .edit => doSetOpt (knobOf a).toNat s
  | .modSpeed, .edit => doSetOpt (knobOf a).toNat s
  | .filtFreq, .edit => doSetOpt (knobOf a).toNat s
  | .osc, .play => if s.run then armVisOff (doHit (noteOf a) s) else raiseFault .notStarted w s
  | .modSpeed, .play => doSetMod (noteOf a).toNat s
  | .filtFreq, .play => doSetFilt (noteOf a).toNat s

/-- `GEOM radius` (R226). -/
def execGeom (radius : Nat) (s : State) : Host.Outcome State Fault Refusal :=
  .next { s with geomR := BitVec.ofNat 12 radius }

/-- `PTR angle, dist` (R230). -/
def execPtr (angle : Int) (dist : Nat) (s : State) : Host.Outcome State Fault Refusal :=
  .next (if s.bound then dispatch (encode (.ptr angle dist)) (zoneOf dist s.geomR.toNat) angle s
    else raiseFault .notBound (encode (.ptr angle dist)) s)

/-- `ANG zone, angle` (R231). -/
def execAng (zone : Zone) (angle : Int) (s : State) : Host.Outcome State Fault Refusal :=
  .next (if s.bound then dispatch (encode (.ang zone angle)) zone angle s
    else raiseFault .notBound (encode (.ang zone angle)) s)

/-- `TILT fwd, side` (R233). -/
def execTilt (fwd side : Int) (s : State) : Host.Outcome State Fault Refusal :=
  .next (if s.bound then
      match s.mode with
      | .play => doSetFilt (tiltPos side).toNat (doSetMod (tiltPos fwd).toNat s)
      | .edit => s
    else raiseFault .notBound (encode (.tilt fwd side)) s)

/-- `PUP` (R234). -/
def execPup (s : State) : Host.Outcome State Fault Refusal :=
  .next (if s.bound then
      match s.mode with
      | .play => if s.run then doRelease s else raiseFault .notStarted (encode .pup) s
      | .edit => s
    else raiseFault .notBound (encode .pup) s)

end Sys2Proof.Machine
end

