-- ==== Sys2Proof/Machine/Flags.lean ====
section
/-! DEFINITION. The flags of DVE. There are no condition codes and no command computes a flag from a result
(10_state.md R41); the flags are the state bits `RUN`, `BOUND`, `MODE`, `ENV_STATE`, `FAULT`, `VIS_PEND`, `MOD.ACT`
and `CUT.ACT`, and what stands here is the word `STATUS` that shows them (R50). -/

namespace Sys2Proof.Machine

/-- The code of `MODE` (R27). -/
def modeBit : Mode → BitVec 1
  | .play => 0
  | .edit => 1

/-- The code of `ENV_STATE` (R28). -/
def envStateCode : EnvState → BitVec 2
  | .idle => 0
  | .attacking => 1
  | .holding => 2
  | .releasing => 3

/-- Register `STATUS` (R50), bit 8 on the left. -/
def statusWord (s : State) : Word :=
  0#23 ++ BitVec.ofBool s.cutUnit.act ++ BitVec.ofBool s.modUnit.act ++ BitVec.ofBool s.visPend ++
    BitVec.ofBool s.fault ++ envStateCode s.envState ++ modeBit s.mode ++ BitVec.ofBool s.bound ++
    BitVec.ofBool s.run

end Sys2Proof.Machine
end

