-- ==== Sys2Proof/Machine/RegMap.lean ====
section
/-! DEFINITION. The register map of the read port (10_state.md R50). -/

namespace Sys2Proof.Machine

/-- `V<v>_SEL`: `WIDX_v` in bits 2:0, `OIDX_v` in bits 6:4 (R50). -/
def selWord (x : VoiceState) : Word := 0#25 ++ x.oidx ++ 0#1 ++ x.widx

/-- `RegRead(a)` (R50); `none` for an unmapped number. -/
def regRead (s : State) (a : Nat) : Option Word :=
  match a with
  | 0x00 => some 0x44564507
  | 0x01 => some (statusWord s)
  | 0x02 => some (s.fcode.setWidth 32)
  | 0x03 => some s.fcmd
  | 0x04 => some (s.env.setWidth 32)
  | 0x05 => some (s.envCnt.setWidth 32)
  | 0x06 => some (s.envE0.setWidth 32)
  | 0x07 => some s.vis
  | 0x08 => some (s.geomR.setWidth 32)
  | 0x10 => some (selWord s.voice1)
  | 0x11 => some ((waveKind s .one).setWidth 32)
  | 0x12 => some (BitVec.ofNat 32 (octMul s .one))
  | 0x13 => some (s.voice1.note.signExtend 32)
  | 0x14 => some s.voice1.freq
  | 0x15 => some ((optMask s .one).setWidth 32)
  | 0x20 => some (selWord s.voice2)
  | 0x21 => some ((waveKind s .two).setWidth 32)
  | 0x22 => some (BitVec.ofNat 32 (octMul s .two))
  | 0x23 => some (s.voice2.note.signExtend 32)
  | 0x24 => some s.voice2.freq
  | 0x25 => some ((optMask s .two).setWidth 32)
  | 0x30 => some (s.modPos.setWidth 32)
  | 0x31 => some s.modUnit.tgt
  | 0x32 => some s.modUnit.cur
  | 0x33 => some s.ph
  | 0x34 => some (BitVec.ofInt 32 (lfoOut s))
  | 0x38 => some (s.filtPos.setWidth 32)
  | 0x39 => some s.cutUnit.tgt
  | 0x3A => some s.cutUnit.cur
  | 0x3B => some (cutOut s)
  | 0x40 => some (BitVec.ofNat 32 s.cfg.attack)
  | 0x41 => some (BitVec.ofNat 32 s.cfg.hold)
  | 0x42 => some (BitVec.ofNat 32 s.cfg.release)
  | 0x43 => some (BitVec.ofNat 32 (noteLen s.cfg))
  | 0x44 => some (BitVec.ofNat 32 s.cfg.ramp)
  | 0x45 => some (BitVec.ofNat 32 s.cfg.rmul)
  | 0x46 => some (BitVec.ofNat 32 s.cfg.fs)
  | 0x48 => some (s.cfg.qCfg.setWidth 32)
  | 0x49 => some ((BitVec.ofBool s.cfg.hpEn).setWidth 32)
  | 0x4A => some s.cfg.hpCut
  | 0x4B => some (BitVec.ofNat 32 s.cfg.depth)
  | 0x4C => some (BitVec.ofNat 32 s.cfg.master)
  | _ => none

end Sys2Proof.Machine
end

