-- ==== Sys2Proof/Machine/System.lean ====
section
/-! DEFINITION. The system commands `NOP`, `START`, `BIND`, `RDREG` (41_engine.md R140, R141, R150, R162;
43_decoder.md R225). A command that faults records its own word, which is `encode` of the command, since decoding
loses no bit of a well-formed word (R84; log 4). -/

namespace Sys2Proof.Machine

/-- `NOP` (R140). -/
def execNop (s : State) : Host.Outcome State Fault Refusal := .next s

/-- `START` (R141). -/
def execStart (s : State) : Host.Outcome State Fault Refusal :=
  .next (if s.run then raiseFault .doubleStart (encode .start) s else { s with run := true })

/-- `BIND` (R225). -/
def execBind (s : State) : Host.Outcome State Fault Refusal :=
  .next (if s.bound then raiseFault .doubleBind (encode .bind) s else { s with bound := true })

/-- `RDREG addr` (R150): the value on `rdata_o`, or 0 and the fault `BAD_REG` for an unmapped number. -/
def execRdreg (addr : Nat) (s : State) : Host.Outcome State Fault Refusal :=
  .next (match regRead s addr with
    | some v => { s with rdata := v }
    | none => raiseFault .badReg (encode (.rdreg addr)) { s with rdata := 0 })

end Sys2Proof.Machine
end

