-- ==== Sys2Proof/Machine/Dispatch.lean ====
section
/-! DEFINITION. One arm for each constructor of `Instr`, each one direct call of its meaning (30_encoding.md R83
step 4). -/

namespace Sys2Proof.Machine

def exec (i : Instr) (s : State) : Host.Outcome State Fault Refusal :=
  match i with
  | .nop => Sys2Proof.Machine.execNop s
  | .start => Sys2Proof.Machine.execStart s
  | .bind => Sys2Proof.Machine.execBind s
  | .rdreg addr => Sys2Proof.Machine.execRdreg addr s
  | .hit note => Sys2Proof.Machine.execHit note s
  | .release => Sys2Proof.Machine.execRelease s
  | .setmod pos => Sys2Proof.Machine.execSetmod pos s
  | .setfilt pos => Sys2Proof.Machine.execSetfilt pos s
  | .setopt opt => Sys2Proof.Machine.execSetopt opt s
  | .setwave v idx => Sys2Proof.Machine.execSetwave v idx s
  | .setoct v idx => Sys2Proof.Machine.execSetoct v idx s
  | .setnote v note => Sys2Proof.Machine.execSetnote v note s
  | .geom radius => Sys2Proof.Machine.execGeom radius s
  | .ptr angle dist => Sys2Proof.Machine.execPtr angle dist s
  | .ang zone angle => Sys2Proof.Machine.execAng zone angle s
  | .tilt fwd side => Sys2Proof.Machine.execTilt fwd side s
  | .pup => Sys2Proof.Machine.execPup s

end Sys2Proof.Machine
end

