-- ==== Sys2Proof/Machine/Tick.lean ====
section
/-! DEFINITION. The TICK event (42_tick.md R180 to R187). -/

namespace Sys2Proof.Machine

/-- The value of a linear ramp from `start` to `tgt` after `k` of `n` ticks: `start + floor((tgt - start) * k / n)`
(R181, R183). -/
def linearRamp (start tgt : Int) (k n : Nat) : Int := start + (tgt - start) * k / n

/-- The registers of a ramp unit after `ramp_step(U)` (R181). -/
def advanceRamp (ramp : Nat) (u : RampUnit) : RampUnit :=
  if u.act then
    { u with
      rc := u.rc + 1
      cur := BitVec.ofInt 32 (linearRamp u.start.toNat u.tgt.toNat (u.rc + 1).toNat ramp)
      act := decide ((u.rc + 1).toNat ≠ ramp) }
  else u

/-- `ramp_step(U)` (R181). -/
def rampStep (u : RampId) (s : State) : State := s.setRampUnit u (advanceRamp s.cfg.ramp (s.rampUnit u))

/-- `INC` (R182). -/
def lfoIncrement (c : Config) (rate : Hz12) : Nat := rate.toNat * 2 ^ 20 / c.fs % 2 ^ 32

/-- The LFO phase step (R182). -/
def lfoStep (s : State) : State :=
  { s with ph := if s.run then s.ph + BitVec.ofNat 32 (lfoIncrement s.cfg s.modUnit.cur) else s.ph }

/-- The envelope step in state ATTACKING (R183). -/
def envAttackStep (s : State) : State :=
  { s with
    envCnt := s.envCnt + 1
    env := BitVec.ofInt 25 (linearRamp s.envE0.toNat gainOne (s.envCnt + 1).toNat s.cfg.attack)
    envState :=
      if (s.envCnt + 1).toNat = s.cfg.attack then (if 0 < s.cfg.hold then .holding else .releasing)
      else .attacking }

/-- The envelope step in state HOLDING (R184). -/
def envHoldStep (s : State) : State :=
  { s with
    envCnt := s.envCnt + 1
    envState := if (s.envCnt + 1).toNat = s.cfg.attack + s.cfg.hold then .releasing else .holding }

/-- One tick of the exponential release: `floor(ENV * RMUL / 2^32)` (R186). -/
def decayGain (c : Config) (g : Gain) : Gain := BitVec.ofNat 25 (g.toNat * c.rmul / 2 ^ 32)

/-- The envelope step in state RELEASING (R186). -/
def envReleaseStep (s : State) : State :=
  { s with
    env := decayGain s.cfg s.env
    envState := if decayGain s.cfg s.env = 0 then .idle else .releasing }

/-- The envelope step: exactly one of R183 to R186, by `ENV_STATE`; in IDLE nothing changes (R185). -/
def envStep (s : State) : State :=
  match s.envState with
  | .idle => s
  | .attacking => envAttackStep s
  | .holding => envHoldStep s
  | .releasing => envReleaseStep s

/-- The visual-off timer step (R187). -/
def visStep (s : State) : State :=
  if s.visPend then
    if s.vis.toNat ≤ 1 then { s with vis := 0, visPend := false, visoff := true }
    else { s with vis := s.vis - 1 }
  else s

/-- A `TICK` event: the four steps in their order (R180). -/
def tickEvent (s : State) : State :=
  visStep (envStep (lfoStep (rampStep .cutoff (rampStep .modRate s))))

end Sys2Proof.Machine
end

