-- ==== Sys2Proof/Machine/Command.lean ====
section
/-! DEFINITION. The execution of one event: the command procedure of 30_encoding.md R83, the tick, the reset
(20_memory.md R60). -/

namespace Sys2Proof.Machine

/-- `CMD(w)` (R83): an unassigned opcode and a set reserved bit are faults of the word itself; a well-formed word
runs its command. -/
def runCommand (w : Word) (s : State) : Host.Outcome State Fault Refusal :=
  match decodeWord w with
  | .ok i => exec i s
  | .error .illegalOp => .next (raiseFault .illegalOp w s)
  | .error .reserved => .next (raiseFault .reserved w s)

/-- One event (R60, R300). -/
def runEvent (e : Event) (s : State) : Host.Outcome State Fault Refusal :=
  match e with
  | .cmd w => runCommand w s
  | .tick => .next (tickEvent s)
  | .reset => .next (resetEvent s)

end Sys2Proof.Machine
end

