-- ==== Sys2Proof/Machine/Step.lean ====
section
/-! DEFINITION. One step: the next event of the environment's trace is executed whole (20_memory.md R60, R61). -/

namespace Sys2Proof.Machine

/-- One step of the machine: the fold of R61 by one event. Where the environment presents no event the step is idle
(log 1). -/
def step (s : State) : Host.Outcome State Fault Refusal :=
  match s.fetch with
  | some (e, s') => runEvent e s'
  | none => .next (idleStep s)

/-- `s` with the command word `w` presented as its next event, before the rest of its trace (log 8). -/
def State.withFetchWord (s : State) (nbits w : Nat) : State :=
  { s with input := .cmd (BitVec.ofNat 32 (w % 2 ^ nbits)) :: s.input }

end Sys2Proof.Machine
end

