-- ==== Sys2Proof/Machine/Ports.lean ====
section
/-! DEFINITION. The ports of DVE (10_state.md R52, R53). -/

namespace Sys2Proof.Machine

/-- The output ports (R52; 41_engine.md R157). -/
structure OutPorts where
  runO : Bool
  freq1O : Hz12
  freq2O : Hz12
  wave1O : BitVec 3
  wave2O : BitVec 3
  cutO : Hz12
  qO : BitVec 16
  hpEnO : Bool
  hpCutO : Hz12
  gainO : Gain
  masterO : Gain
  faultO : Bool
  rdataO : Word
  redrawO : Bool
  visoffO : Bool
deriving DecidableEq, Repr

/-- The output ports after an event, from the state after it (R52, 20_memory.md R68). -/
def outPorts (s : State) : OutPorts where
  runO := s.run
  freq1O := s.voice1.freq
  freq2O := s.voice2.freq
  wave1O := waveKind s .one
  wave2O := waveKind s .two
  cutO := cutOut s
  qO := s.cfg.qCfg
  hpEnO := s.cfg.hpEn
  hpCutO := s.cfg.hpCut
  gainO := s.env
  masterO := BitVec.ofNat 25 s.cfg.master
  faultO := s.fault
  rdataO := s.rdata
  redrawO := s.redraw
  visoffO := s.visoff

/-- The input ports in one clock cycle (R53). -/
structure InPorts where
  rstI : Bool
  cmdValidI : Bool
  cmdI : Word
  tickI : Bool
deriving DecidableEq, Repr

/-- The events of one cycle, in order: reset overrides the other two (70_reset_and_hazards.md R300), and a command
comes before a tick (20_memory.md R61). -/
def eventsOfCycle (p : InPorts) : List Event :=
  if p.rstI then [.reset]
  else (if p.cmdValidI then [.cmd p.cmdI] else []) ++ (if p.tickI then [.tick] else [])

/-- The state with the events of one more cycle presented after those already presented (R53, R61). -/
def presentCycle (p : InPorts) (s : State) : State := { s with input := s.input ++ eventsOfCycle p }

end Sys2Proof.Machine
end

