-- ==== Sys2Proof/Safety.lean ====
section
/-! DEFINITION. What a reachable state of a DVE is, in the terms the claims use: the invariants the spec lists
(10_state.md R23, R30, R31, R35; 42_tick.md R190; 60_exceptions.md R271; 70_reset_and_hazards.md R313). The spec
gives the step function no meaning of its own where they are broken (93_implementation_defined.md U15). -/

namespace Sys2Proof.Machine

/-- Selectors are valid indices and the frequency is the pitch of the note (R23). -/
structure VoiceInv (vc : VoiceConfig) (x : VoiceState) : Prop where
  widx_lt : x.widx.toNat < vc.waveSet.length
  oidx_lt : x.oidx.toNat < vc.octSet.length
  freq_eq : x.freq = pitch vc x.note.toInt x.oidx.toNat

/-- The live value lies between start and target; at rest it is the target; in flight it is on the line of R181
(R35, R313). -/
structure RampInv (ramp : Nat) (u : RampUnit) : Prop where
  rc_le : u.rc.toNat ≤ ramp
  between : min u.start.toNat u.tgt.toNat ≤ u.cur.toNat ∧ u.cur.toNat ≤ max u.start.toNat u.tgt.toNat
  resting : u.act = false → u.cur = u.tgt
  flying : u.act = true → u.rc.toNat < ramp ∧
    (u.cur.toNat : Int) = linearRamp u.start.toNat u.tgt.toNat u.rc.toNat ramp

/-- The envelope invariants of R31, and the range of `ENV_CNT` (R30). -/
structure EnvInv (s : State) : Prop where
  env_le : s.env.toNat ≤ gainOne
  envE0_le : s.envE0.toNat ≤ gainOne
  envCnt_le : s.envCnt.toNat ≤ s.cfg.attack + s.cfg.hold
  idle : s.envState = .idle → s.env = 0
  attacking : s.envState = .attacking →
    0 < s.cfg.attack ∧ s.envCnt.toNat < s.cfg.attack ∧
    (s.env.toNat : Int) = linearRamp s.envE0.toNat gainOne s.envCnt.toNat s.cfg.attack
  holding : s.envState = .holding →
    0 < s.cfg.hold ∧ s.env.toNat = gainOne ∧
    s.cfg.attack ≤ s.envCnt.toNat ∧ s.envCnt.toNat < s.cfg.attack + s.cfg.hold

/-- The fault record: empty while `FAULT = 0`, one of the seven codes afterwards (R40, R271). -/
structure FaultInv (s : State) : Prop where
  clear : s.fault = false → s.fcode = 0 ∧ s.fcmd = 0
  code : s.fault = true → 1 ≤ s.fcode.toNat ∧ s.fcode.toNat ≤ 7

/-- Before `START` nothing sounds, no timer is armed and the LFO stands still (R190 (c), R36). -/
structure NotStartedInv (s : State) : Prop where
  envState_idle : s.run = false → s.envState = .idle
  no_timer : s.run = false → s.visPend = false
  phase_zero : s.run = false → s.ph = 0

/-- The visual-off timer never holds more than a note's length, and 0 when it is not armed (R187, R313). -/
structure TimerInv (s : State) : Prop where
  vis_le : s.vis.toNat ≤ noteLen s.cfg
  vis_zero : s.visPend = false → s.vis = 0

/-- The knobs: each target is the map of the position kept for read-back (R34, R144, R145). -/
structure KnobInv (s : State) : Prop where
  mod_tgt : s.modUnit.tgt = modTarget s.cfg s.modPos.toNat
  cut_tgt : s.cutUnit.tgt = filtTarget s.cfg s.filtPos.toNat

/-- `k` steps from `s`, the run function of R61 over the first `k` events of the trace; it stops where a step does
not answer a next state, which no step of DVE does. -/
def runSteps : Nat → State → Host.Outcome State Fault Refusal
  | 0, s => .next s
  | k + 1, s =>
    match step s with
    | .next t => runSteps k t
    | .fault r => .fault r
    | .refused r => .refused r

/-- The invariant of DVE. -/
structure Inv (s : State) : Prop where
  cfg_wf : s.cfg.WellFormed
  voice1 : VoiceInv s.cfg.voice1 s.voice1
  voice2 : VoiceInv s.cfg.voice2 s.voice2
  modUnit : RampInv s.cfg.ramp s.modUnit
  cutUnit : RampInv s.cfg.ramp s.cutUnit
  env : EnvInv s
  fault : FaultInv s
  notStarted : NotStartedInv s
  timer : TimerInv s
  knobs : KnobInv s

end Sys2Proof.Machine
end

