-- ==== Sys2Proof/Certificates/Slice0/Obligations.lean ====
section
/-! DEFINITION. The statements for the provers. Every statement ranges over every configuration (`s.cfg`); only one
clause, about `State.reset`, is about configuration T (log 2). Throughout, a step takes its event from the field `input`
(log 1), the outputs of an event are fields of the state after it (log 3), and the word a refused command records is
written as its encoding (log 4). -/

namespace Sys2Proof.Claims

open Sys2Proof.Machine

/-- The state after fault `n` in the command word `w`, as R272 says it: recorded if no fault was recorded before,
no change at all otherwise. -/
def recorded (n : Nat) (w : Word) (s : State) : State :=
  if s.fault = true then s else { s with fault := true, fcode := BitVec.ofNat 4 n, fcmd := w }

/-- `clamp32` said with minimum and maximum (R8). -/
def saturated (x : Int) : Hz12 := BitVec.ofNat 32 (min (max x 0) 4294967295).toNat

/-- The opcode values R86 lists as unassigned. -/
def Unassigned (op : Nat) : Prop :=
  (0x04 ≤ op ∧ op ≤ 0x0F) ∨ (0x15 ≤ op ∧ op ≤ 0x1F) ∨ (0x23 ≤ op ∧ op ≤ 0x2F) ∨ (0x35 ≤ op ∧ op ≤ 0xFF)

/-- Assigned opcode and field mask of its payload, as R84 lists them. -/
def fieldMasks : List (BitVec 8 × BitVec 24) :=
  [(0x00, 0x000000), (0x01, 0x000000), (0x02, 0x000000), (0x11, 0x000000), (0x34, 0x000000),
   (0x03, 0x0000FF), (0x10, 0x0000FF),
   (0x12, 0x00000F), (0x13, 0x00000F), (0x14, 0x00000F),
   (0x20, 0x0001FF), (0x21, 0x0001FF), (0x22, 0x0001FF),
   (0x30, 0x000FFF), (0x31, 0xFFFFFF), (0x33, 0xFFFFFF), (0x32, 0x003FFF)]

/-- Mask, match and mnemonic of each row of spec/opcode_table.json. -/
def tableRows : List (Word × Word × String) :=
  [(0xFFFFFFFF, 0x00000000, "NOP"), (0xFFFFFFFF, 0x01000000, "START"), (0xFFFFFFFF, 0x02000000, "BIND"),
   (0xFFFFFF00, 0x03000000, "RDREG"), (0xFFFFFF00, 0x10000000, "HIT"), (0xFFFFFFFF, 0x11000000, "RELEASE"),
   (0xFFFFFFF0, 0x12000000, "SETMOD"), (0xFFFFFFF0, 0x13000000, "SETFILT"), (0xFFFFFFF0, 0x14000000, "SETOPT"),
   (0xFFFFFE00, 0x20000000, "SETWAVE"), (0xFFFFFE00, 0x21000000, "SETOCT"), (0xFFFFFE00, 0x22000000, "SETNOTE"),
   (0xFFFFF000, 0x30000000, "GEOM"), (0xFF000000, 0x31000000, "PTR"), (0xFFFFC000, 0x32000000, "ANG"),
   (0xFF000000, 0x33000000, "TILT"), (0xFFFFFFFF, 0x34000000, "PUP")]

/-- Words and the commands they stand for, as R102 and 95_test_vectors.md 3.1 give them. -/
def specWords : List (Word × Instr) :=
  [(0x00000000, .nop), (0x01000000, .start), (0x02000000, .bind), (0x03000014, .rdreg 0x14),
   (0x10000000, .hit 0), (0x100000FF, .hit (-1)), (0x1000007F, .hit 127), (0x10000080, .hit (-128)),
   (0x11000000, .release), (0x1200000C, .setmod 12), (0x13000007, .setfilt 7), (0x1400000B, .setopt 11),
   (0x20000002, .setwave .one 2), (0x200001FF, .setwave .two 255), (0x21000101, .setoct .two 1),
   (0x220001F4, .setnote .two (-12)), (0x300000C8, .geom 200), (0x31E98050, .ptr (-360) 80),
   (0x317FFFFF, .ptr 2047 4095), (0x32001E98, .ang .osc (-360)), (0x320032D0, .ang .filtFreq 720),
   (0x32000000, .ang .toggle 0), (0x330B4168, .tilt 180 360), (0x33FD81E0, .tilt (-40) 480),
   (0x34000000, .pup)]

/-- The fault numbers R286 marks for a command; `RESERVED` is a fault of the word and never of a decoded command. -/
def mayRaise : Instr → List Nat
  | .start => [3]
  | .bind => [5]
  | .rdreg _ => [7]
  | .hit _ => [4]
  | .release => [4]
  | .ptr _ _ => [4, 6]
  | .ang _ _ => [4, 6]
  | .tilt _ _ => [6]
  | .pup => [4, 6]
  | .nop | .setmod _ | .setfilt _ | .setopt _ | .setwave _ _ | .setoct _ _ | .setnote _ _ | .geom _ => []

/-- A state without its fault record and without the read data. -/
def withoutRecord (s : State) : State := { s with fault := false, fcode := 0, fcmd := 0, rdata := 0 }

/-- The 42 mapped register numbers, as R150 lists them. -/
def Mapped (a : Nat) : Prop :=
  a ≤ 0x08 ∨ (0x10 ≤ a ∧ a ≤ 0x15) ∨ (0x20 ≤ a ∧ a ≤ 0x25) ∨ (0x30 ≤ a ∧ a ≤ 0x34) ∨
    (0x38 ≤ a ∧ a ≤ 0x3B) ∨ (0x40 ≤ a ∧ a ≤ 0x46) ∨ (0x48 ≤ a ∧ a ≤ 0x4C)

/-- `ENV_STATE` as a number (R28). -/
def envNumber : EnvState → Nat
  | .idle => 0
  | .attacking => 1
  | .holding => 2
  | .releasing => 3

/-- `STATUS` as a sum of its bits (R50). -/
def statusNumber (s : State) : Nat :=
  s.run.toNat + 2 * s.bound.toNat + 4 * (if s.mode = .edit then 1 else 0) + 8 * envNumber s.envState +
    32 * s.fault.toNat + 64 * s.visPend.toNat + 128 * s.modUnit.act.toNat + 256 * s.cutUnit.act.toNat

/-- Register number and unsigned value of each mapped register but the three signed ones (R50). -/
def registerValues (s : State) : List (Nat × Nat) :=
  [(0x00, 0x44564507), (0x01, statusNumber s), (0x02, s.fcode.toNat), (0x03, s.fcmd.toNat),
   (0x04, s.env.toNat), (0x05, s.envCnt.toNat), (0x06, s.envE0.toNat), (0x07, s.vis.toNat),
   (0x08, s.geomR.toNat),
   (0x10, s.voice1.widx.toNat + 16 * s.voice1.oidx.toNat),
   (0x11, (s.cfg.voice1.waveSet.getD s.voice1.widx.toNat 0).toNat),
   (0x12, s.cfg.voice1.octSet.getD s.voice1.oidx.toNat 0),
   (0x14, s.voice1.freq.toNat), (0x15, (optMask s .one).toNat),
   (0x20, s.voice2.widx.toNat + 16 * s.voice2.oidx.toNat),
   (0x21, (s.cfg.voice2.waveSet.getD s.voice2.widx.toNat 0).toNat),
   (0x22, s.cfg.voice2.octSet.getD s.voice2.oidx.toNat 0),
   (0x24, s.voice2.freq.toNat), (0x25, (optMask s .two).toNat),
   (0x30, s.modPos.toNat), (0x31, s.modUnit.tgt.toNat), (0x32, s.modUnit.cur.toNat), (0x33, s.ph.toNat),
   (0x38, s.filtPos.toNat), (0x39, s.cutUnit.tgt.toNat), (0x3A, s.cutUnit.cur.toNat),
   (0x3B, (cutOut s).toNat),
   (0x40, s.cfg.attack), (0x41, s.cfg.hold), (0x42, s.cfg.release),
   (0x43, s.cfg.attack + s.cfg.hold + s.cfg.release), (0x44, s.cfg.ramp), (0x45, s.cfg.rmul), (0x46, s.cfg.fs),
   (0x48, s.cfg.qCfg.toNat), (0x49, s.cfg.hpEn.toNat), (0x4A, s.cfg.hpCut.toNat), (0x4B, s.cfg.depth),
   (0x4C, s.cfg.master)]

/-- The table of R147: the voice, whether an octave (or else a waveform) is selected, and its position. -/
def optionRow : Nat → Voice × Bool × Nat
  | 0 => (.one, false, 0)
  | 1 => (.one, false, 1)
  | 2 => (.one, false, 2)
  | 3 => (.one, true, 0)
  | 4 => (.one, true, 1)
  | 5 => (.one, true, 2)
  | 6 => (.two, true, 2)
  | 7 => (.two, true, 1)
  | 8 => (.two, true, 0)
  | 9 => (.two, false, 2)
  | 10 => (.two, false, 1)
  | 11 => (.two, false, 0)
  | 12 => (.one, false, 0)
  | 13 => (.one, false, 1)
  | 14 => (.one, false, 2)
  | _ => (.one, true, 0)

/-- The twelve literals of R112. -/
def semitones : List Nat :=
  [1073741824, 1137589835, 1205234447, 1276901417, 1352829926, 1433273380,
   1518500250, 1608794974, 1704458901, 1805811301, 1913190429, 2026954652]

/-- `i` is a press in zone `z` at angle `a`: `ANG` names the zone, `PTR` gives a distance that is classified against
`GEOM_R` (R230, R231). -/
def IsPress (s : State) (i : Instr) (z : Zone) (a : Int) : Prop :=
  i = .ang z a ∨ ∃ d, i = .ptr a d ∧ z = zoneOf d s.geomR.toNat

/-- `i` is a hit of a started engine: the direct `HIT`, or a press of the bound decoder in zone OSC in PLAY mode
(R148, R228). -/
def IsHit (s : State) (i : Instr) : Prop :=
  s.run = true ∧ i.wellFormed = true ∧
    ((∃ n, i = .hit n) ∨ (s.bound = true ∧ s.mode = .play ∧ ∃ a, IsPress s i .osc a))

/-- A setter's registers after `ramp_set` with target `new` (R146). -/
def retargeted (ramp : Nat) (new : Hz12) (u : RampUnit) : RampUnit where
  cur := if ramp = 0 then new else u.cur
  start := u.cur
  tgt := new
  rc := 0
  act := decide (0 < ramp)

/-- What R181 says of one ramp unit across a tick. -/
def RampMoved (ramp : Nat) (before after : RampUnit) : Prop :=
  after.start = before.start ∧ after.tgt = before.tgt ∧
  (before.act = false → after = before) ∧
  (before.act = true →
    after.rc.toNat = before.rc.toNat + 1 ∧
    (after.cur.toNat : Int) = before.start.toNat +
      ⌊(((before.tgt.toNat : ℚ) - before.start.toNat) * (before.rc.toNat + 1) / ramp : ℚ)⌋ ∧
    (after.act = false ↔ before.rc.toNat + 1 = ramp) ∧
    (before.rc.toNat + 1 = ramp → after.cur = before.tgt))

end Sys2Proof.Claims

open Sys2Proof Sys2Proof.Machine Sys2Proof.Claims

/-! ### Encoding -/

/-- Decoding the word of a well-formed command gives the command back, every operand at every value its field
holds (R82, R84, R85). -/
def Obligations.DecodeOfEncodeIsTheCommand : Prop :=
  ∀ i : Instr, i.wellFormed = true → decodeWord (encode i) = .ok i

/-- A word that decodes has one command, whose word it is: no bit of a well-formed word is ignored (R84, R87). -/
def Obligations.EncodeOfDecodeIsTheWord : Prop :=
  ∀ (w : Word) (i : Instr), decodeWord w = .ok i → encode i = w ∧ i.wellFormed = true

/-- A word is a command of a row of the opcode table exactly when its masked bits read as the row's match (R84). -/
def Obligations.TableRowsAreWhatTheDecoderReads : Prop :=
  ∀ row ∈ tableRows, ∀ w : Word,
    w &&& row.1 = row.2.1 ↔ ∃ i, decodeWord w = .ok i ∧ i.mnemonic = row.2.2

/-- The encoding examples of the spec decode to the commands they are given for, and encode to the words (R102). -/
def Obligations.SpecWordsDecode : Prop :=
  ∀ p ∈ specWords, decodeWord p.1 = .ok p.2 ∧ encode p.2 = p.1

/-- An unassigned opcode raises `ILLEGAL_OP` and changes nothing else (R86). -/
def Obligations.UnassignedOpcodeRaisesIllegalOp : Prop :=
  ∀ (s : State) (w : Word) (rest : List Event),
    s.input = .cmd w :: rest → Unassigned (w.toNat / 2 ^ 24) →
    step s = .next (recorded 1 w (s.beginEvent rest))

/-- A reserved payload bit under an assigned opcode raises `RESERVED` and changes nothing else (R87, with the masks
of R84). -/
def Obligations.ReservedPayloadBitRaisesReserved : Prop :=
  ∀ row ∈ fieldMasks, ∀ (s : State) (w : Word) (rest : List Event),
    s.input = .cmd w :: rest → w.extractLsb' 24 8 = row.1 → w.extractLsb' 0 24 &&& ~~~row.2 ≠ 0 →
    step s = .next (recorded 2 w (s.beginEvent rest))

/-! ### The step -/

/-- A step whose next event is a well-formed command word runs that command, on the state with the event taken from
the trace and the event outputs at rest (R52, R83). -/
def Obligations.StepRunsTheDecodedCommand : Prop :=
  ∀ (s : State) (w : Word) (rest : List Event) (i : Instr),
    s.input = .cmd w :: rest → decodeWord w = .ok i →
    step s = exec i { s with rdata := 0, redraw := false, visoff := false, input := rest }

/-- Every step completes, takes exactly the first event of the trace, and leaves the configuration alone (R20, R60,
R68). That a step with no event presented leaves every register is the model's choice (log 1). -/
def Obligations.StepTakesOneEventAndKeepsTheConfiguration : Prop :=
  ∀ s : State, ∃ t, step s = .next t ∧ t.input = s.input.tail ∧ t.cfg = s.cfg ∧
    (s.input = [] → t = { s with rdata := 0, redraw := false, visoff := false, input := [] })

/-- `RUN`, `BOUND` and a recorded fault survive every event but reset (R25, R26, R273). -/
def Obligations.OnlyResetClearsRunBoundAndFault : Prop :=
  ∀ (s : State) (e : Event) (rest : List Event), s.input = e :: rest → e ≠ .reset →
    ∃ t, step s = .next t ∧ (s.run = true → t.run = true) ∧ (s.bound = true → t.bound = true) ∧
      (s.fault = true → t.fault = true ∧ t.fcode = s.fcode ∧ t.fcmd = s.fcmd)

/-- Outside reset the mode changes exactly in the events that pulse `redraw_o`, and such an event changes nothing
else (R227). -/
def Obligations.ModeChangesExactlyWithRedraw : Prop :=
  ∀ (s : State) (e : Event) (rest : List Event), s.input = e :: rest → e ≠ .reset →
    ∃ t, step s = .next t ∧ (t.mode ≠ s.mode ↔ t.redraw = true) ∧
      (t.redraw = true → t = { s.beginEvent rest with mode := t.mode, redraw := true })

/-! ### Faults -/

/-- A command that raises the first fault records one of the seven codes and its own word, and changes nothing
else (R272). -/
def Obligations.FaultingCommandChangesOnlyTheRecord : Prop :=
  ∀ (s : State) (w : Word) (rest : List Event), s.input = .cmd w :: rest → s.fault = false →
    ∃ t, step s = .next t ∧
      (t.fault = true → ∃ n, 1 ≤ n ∧ n ≤ 7 ∧ t = recorded n w (s.beginEvent rest))

/-- A decoded command raises only the faults the matrix marks for it (R286). -/
def Obligations.CommandsRaiseOnlyTheirFaults : Prop :=
  ∀ (i : Instr) (s : State), s.fault = false →
    ∃ t, exec i s = .next t ∧ (t.fault = true → t.fcode.toNat ∈ mayRaise i)

/-- A recorded fault changes no behaviour: two states that differ at most in the fault record and the read data step
to two such states, with equal read data unless `STATUS`, `FCODE` or `FCMD` is read (R273). -/
def Obligations.RecordedFaultChangesNoBehaviour : Prop :=
  ∀ s s' : State, withoutRecord s = withoutRecord s' →
    ∃ t t', step s = .next t ∧ step s' = .next t' ∧ withoutRecord t = withoutRecord t' ∧
      ((∀ w rest, s.input = .cmd w :: rest → w ∉ [0x03000001#32, 0x03000002#32, 0x03000003#32]) →
        t.rdata = t'.rdata)

/-- The four decoder inputs before `BIND` raise `NOT_BOUND`; a hit or a release before `START`, direct or through the
bound decoder in PLAY mode, raises `NOT_STARTED`; nothing else happens (R148, R149, R228, R230, R231, R233, R234). -/
def Obligations.CommandsBeforeBindOrStartFault : Prop :=
  ∀ s : State,
    (s.bound = false →
      (∀ a d, exec (.ptr a d) s = .next (recorded 6 (encode (.ptr a d)) s)) ∧
      (∀ z a, exec (.ang z a) s = .next (recorded 6 (encode (.ang z a)) s)) ∧
      (∀ f g, exec (.tilt f g) s = .next (recorded 6 (encode (.tilt f g)) s)) ∧
      exec .pup s = .next (recorded 6 0x34000000 s)) ∧
    (s.run = false →
      (∀ n, exec (.hit n) s = .next (recorded 4 (encode (.hit n)) s)) ∧
      exec .release s = .next (recorded 4 0x11000000 s) ∧
      (s.bound = true → s.mode = .play →
        exec .pup s = .next (recorded 4 0x34000000 s) ∧
        ∀ i a, IsPress s i .osc a → exec i s = .next (recorded 4 (encode i) s)))

/-! ### System commands -/

/-- `NOP` changes no state, and its only fault is `RESERVED` for a non-zero payload (R140). -/
def Obligations.NopChangesNothing : Prop :=
  (∀ s : State, exec .nop s = .next s) ∧
  ∀ (s : State) (w : Word) (rest : List Event), s.input = .cmd w :: rest → w.extractLsb' 24 8 = 0#8 →
    step s = .next (if w.extractLsb' 0 24 = 0#24 then s.beginEvent rest else recorded 2 w (s.beginEvent rest))

/-- `START` sets `RUN` and nothing else; with `RUN = 1` it raises `DOUBLE_START` (R141). -/
def Obligations.StartSetsRunOnce : Prop :=
  ∀ s : State,
    (s.run = false → exec .start s = .next { s with run := true }) ∧
    (s.run = true → exec .start s = .next (recorded 3 0x01000000 s))

/-- `BIND` sets `BOUND` and nothing else; with `BOUND = 1` it raises `DOUBLE_BIND` (R225). -/
def Obligations.BindSetsBoundOnce : Prop :=
  ∀ s : State,
    (s.bound = false → exec .bind s = .next { s with bound := true }) ∧
    (s.bound = true → exec .bind s = .next (recorded 5 0x02000000 s))

/-- `RDREG` shows the value of a mapped register and changes no register; an unmapped number reads 0 and raises
`BAD_REG` (R150). -/
def Obligations.RdregReadsTheMap : Prop :=
  ∀ (s : State) (a : Nat), a < 256 →
    (Mapped a → ∃ v, regRead s a = some v ∧ exec (.rdreg a) s = .next { s with rdata := v }) ∧
    (¬ Mapped a →
      exec (.rdreg a) s = .next (recorded 7 (BitVec.ofNat 32 (0x03000000 + a)) { s with rdata := 0 }))

/-- The value of every mapped register in a machine whose configuration keeps its limits (R50). -/
def Obligations.RegisterMapPresentsTheState : Prop :=
  ∀ s : State, s.cfg.Limits →
    (∀ p ∈ registerValues s, ∃ v, regRead s p.1 = some v ∧ v.toNat = p.2) ∧
    (∃ v, regRead s 0x13 = some v ∧ v.toInt = s.voice1.note.toInt) ∧
    (∃ v, regRead s 0x23 = some v ∧ v.toInt = s.voice2.note.toInt) ∧
    (∃ v, regRead s 0x34 = some v ∧ v.toInt = lfoOut s) ∧
    (∀ a, ¬ Mapped a → regRead s a = none)

/-! ### Engine commands -/

/-- `HIT` in a started engine sets both pitches and starts the attack from the gain reached, and touches nothing
else (R142, R148). -/
def Obligations.HitRetargetsPitchAndAttack : Prop :=
  ∀ (s : State) (n : Int), s.run = true →
    exec (.hit n) s = .next
      { s with
        voice1 := { s.voice1 with
          note := BitVec.ofInt 8 n, freq := pitch s.cfg.voice1 n s.voice1.oidx.toNat }
        voice2 := { s.voice2 with
          note := BitVec.ofInt 8 n, freq := pitch s.cfg.voice2 n s.voice2.oidx.toNat }
        envE0 := s.env
        envCnt := 0
        env := if s.cfg.attack = 0 then 16777216 else s.env
        envState :=
          if 0 < s.cfg.attack then .attacking else if 0 < s.cfg.hold then .holding else .releasing }

/-- `RELEASE` in a started engine: ATTACKING and HOLDING become RELEASING, IDLE and RELEASING stay, and nothing else
changes (R143, R149). -/
def Obligations.ReleaseOnlyMovesTheEnvelopeState : Prop :=
  ∀ s : State, s.run = true →
    exec .release s = .next { s with
      envState := if s.envState = .attacking ∨ s.envState = .holding then .releasing else s.envState }

/-- `SETMOD` keeps the position and asks its ramp unit for the linear map's value, saturated (R144, R146, R151). -/
def Obligations.SetmodRequestsTheLinearMap : Prop :=
  ∀ (s : State) (pos : Nat),
    exec (.setmod pos) s = .next
      { s with
        modPos := BitVec.ofNat 4 pos
        modUnit := retargeted s.cfg.ramp (saturated (s.cfg.modMin + s.cfg.modStep * pos)) s.modUnit }

/-- `SETFILT` keeps the position and asks its ramp unit for the quadratic map's value, saturated (R145, R146,
R152). -/
def Obligations.SetfiltRequestsTheQuadraticMap : Prop :=
  ∀ (s : State) (pos : Nat),
    exec (.setfilt pos) s = .next
      { s with
        filtPos := BitVec.ofNat 4 pos
        cutUnit := retargeted s.cfg.ramp
          (saturated (s.cfg.filtMin + (s.cfg.filtStep * pos) * (s.cfg.filtStep * pos))) s.cutUnit }

/-- `SETOPT` does what `SETWAVE` or `SETOCT` does for the row of the table of R147 (R147, R153). -/
def Obligations.SetoptFollowsTheOptionTable : Prop :=
  ∀ (s : State) (opt : Nat), opt < 16 →
    ∃ t, exec (.setopt opt) s = .next t ∧
      (if (optionRow opt).2.1 then exec (.setoct (optionRow opt).1 (optionRow opt).2.2) s
        else exec (.setwave (optionRow opt).1 (optionRow opt).2.2) s) = .next t

/-! ### Voice commands -/

/-- `SETWAVE` writes `WIDX_v` with the index modulo the set's length and nothing else, and the waveform port shows
the entry at once (R114). -/
def Obligations.SetwaveSelectsTheWaveform : Prop :=
  ∀ (s : State) (idx : Nat), s.cfg.Limits →
    (exec (.setwave .one idx) s = .next { s with
        voice1 := { s.voice1 with widx := BitVec.ofNat 3 (idx % s.cfg.voice1.waveSet.length) } }) ∧
    (exec (.setwave .two idx) s = .next { s with
        voice2 := { s.voice2 with widx := BitVec.ofNat 3 (idx % s.cfg.voice2.waveSet.length) } }) ∧
    (∀ t, exec (.setwave .one idx) s = .next t →
      t.voice1.widx.toNat = idx % s.cfg.voice1.waveSet.length ∧
      s.cfg.voice1.waveSet[idx % s.cfg.voice1.waveSet.length]? = some (outPorts t).wave1O) ∧
    (∀ t, exec (.setwave .two idx) s = .next t →
      t.voice2.widx.toNat = idx % s.cfg.voice2.waveSet.length ∧
      s.cfg.voice2.waveSet[idx % s.cfg.voice2.waveSet.length]? = some (outPorts t).wave2O)

/-- `SETOCT` writes `OIDX_v` with the index modulo the set's length, computes `FREQ_v` anew from the stored note with
the new `OIDX_v`, and touches nothing else (R115). -/
def Obligations.SetoctRecomputesTheFrequency : Prop :=
  ∀ (s : State) (idx : Nat), s.cfg.Limits →
    (∃ x : VoiceState, exec (.setoct .one idx) s = .next { s with voice1 := x } ∧
      x.oidx.toNat = idx % s.cfg.voice1.octSet.length ∧ x.widx = s.voice1.widx ∧ x.note = s.voice1.note ∧
      x.freq = pitch s.cfg.voice1 s.voice1.note.toInt x.oidx.toNat) ∧
    (∃ x : VoiceState, exec (.setoct .two idx) s = .next { s with voice2 := x } ∧
      x.oidx.toNat = idx % s.cfg.voice2.octSet.length ∧ x.widx = s.voice2.widx ∧ x.note = s.voice2.note ∧
      x.freq = pitch s.cfg.voice2 s.voice2.note.toInt x.oidx.toNat)

/-- `SETNOTE` writes `NOTE_v` and `FREQ_v` and nothing else, the envelope included (R116). -/
def Obligations.SetnoteSetsThePitch : Prop :=
  ∀ (s : State) (n : Int), -128 ≤ n → n ≤ 127 →
    (∃ x : VoiceState, exec (.setnote .one n) s = .next { s with voice1 := x } ∧
      x.note.toInt = n ∧ x.widx = s.voice1.widx ∧ x.oidx = s.voice1.oidx ∧
      x.freq = pitch s.cfg.voice1 n s.voice1.oidx.toNat) ∧
    (∃ x : VoiceState, exec (.setnote .two n) s = .next { s with voice2 := x } ∧
      x.note.toInt = n ∧ x.widx = s.voice2.widx ∧ x.oidx = s.voice2.oidx ∧
      x.freq = pitch s.cfg.voice2 n s.voice2.oidx.toNat)

/-- `pitch` is the floor of the exact product, with the octave as a power of two, plus the detune, saturated
(R113, with the table of R112). -/
def Obligations.PitchIsTheFlooredProduct : Prop :=
  ∀ (vc : VoiceConfig) (n : Int) (oidx : Nat),
    ((pitch vc n oidx).toNat : Int) =
      min (max (⌊(vc.base : ℚ) * (semitones.getD (n % 12).toNat 0 : ℕ) * (vc.octSet.getD oidx 0 : ℕ) *
        (2 : ℚ) ^ (n / 12) / 2 ^ 30⌋ + vc.detune) 0) 4294967295

/-- `pitch` does not fall as the note rises, and twelve notes up double an un-detuned root exactly while no clamp
acts (R121). -/
def Obligations.PitchRisesAndOctavesAreExact : Prop :=
  (∀ (vc : VoiceConfig) (n m : Int) (oidx : Nat), n ≤ m →
    (pitch vc n oidx).toNat ≤ (pitch vc m oidx).toNat) ∧
  (∀ (vc : VoiceConfig) (m oidx : Nat), vc.detune = 0 →
    vc.base * vc.octSet.getD oidx 0 * 2 ^ m < 2 ^ 32 →
    (pitch vc (12 * m) oidx).toNat = vc.base * vc.octSet.getD oidx 0 * 2 ^ m)

/-- `OPTMASK_v` flags exactly the selected waveform and the selected octave (R117). -/
def Obligations.OptionMaskFlagsTheSelection : Prop :=
  ∀ (s : State) (v : Voice), s.cfg.Limits → VoiceInv (s.cfg.voice v) (s.voice v) →
    (∀ i, i < (s.cfg.voice v).waveSet.length →
      (optMask s v).getLsbD i = decide (i = (s.voice v).widx.toNat)) ∧
    (∀ j, j < (s.cfg.voice v).octSet.length →
      (optMask s v).getLsbD ((s.cfg.voice v).waveSet.length + j) = decide (j = (s.voice v).oidx.toNat)) ∧
    (∀ b, (s.cfg.voice v).waveSet.length + (s.cfg.voice v).octSet.length ≤ b →
      (optMask s v).getLsbD b = false)

/-- The knob positions can be recovered from the targets exactly where no clamp acts (R155). -/
def Obligations.KnobPositionIsRecovered : Prop :=
  (∀ (c : Config) (pos : Nat), 0 < c.filtStep → 0 ≤ c.filtMin + (c.filtStep * pos : Int) ^ 2 →
    c.filtMin + (c.filtStep * pos : Int) ^ 2 < 2 ^ 32 →
    Nat.sqrt (((filtTarget c pos).toNat : Int) - c.filtMin).toNat / c.filtStep = pos ∧
    Nat.sqrt (((filtTarget c pos).toNat : Int) - c.filtMin).toNat % c.filtStep = 0) ∧
  (∀ (c : Config) (pos : Nat), c.modStep ≠ 0 → 0 ≤ c.modMin + c.modStep * pos →
    c.modMin + c.modStep * pos < 2 ^ 32 →
    (((modTarget c pos).toNat : Int) - c.modMin) / c.modStep = pos)

/-! ### Control surface -/

/-- `GEOM` records the radius and nothing else (R226). -/
def Obligations.GeomRecordsTheRadius : Prop :=
  ∀ (s : State) (r : Nat), r < 4096 →
    ∃ x : BitVec 12, x.toNat = r ∧ exec (.geom r) s = .next { s with geomR := x }

/-- A press in the TOGGLE zone flips the mode and pulses `redraw_o`, whatever the angle, and touches nothing else
(R227, R228). -/
def Obligations.TogglePressFlipsTheMode : Prop :=
  ∀ (s : State) (i : Instr) (a : Int), s.bound = true → IsPress s i .toggle a →
    exec i s = .next { s with mode := if s.mode = .play then .edit else .play, redraw := true }

/-- In EDIT mode a press outside the toggle does what `SETOPT` does with the angle's option (R228, R232). -/
def Obligations.EditPressSelectsTheOption : Prop :=
  ∀ (s : State) (i : Instr) (z : Zone) (a : Int), s.bound = true → s.mode = .edit → z ≠ .toggle →
    IsPress s i z a → ∃ t, exec (.setopt (knobOf a).toNat) s = .next t ∧ exec i s = .next t

/-- In PLAY mode a press in zone OSC does what `HIT` does with the sector's note and loads the visual-off timer with
the note length (R228, R229). -/
def Obligations.PlayPressHitsTheNote : Prop :=
  ∀ (s : State) (i : Instr) (a : Int), s.bound = true → s.run = true → s.mode = .play → IsPress s i .osc a →
    ∃ t, exec (.hit (noteOf a)) s = .next t ∧
      exec i s = .next { t with
        vis := BitVec.ofNat 32 (s.cfg.attack + s.cfg.hold + s.cfg.release), visPend := true }

/-- In PLAY mode a press in a knob zone does what the knob's setter does with the sector as its position
(R228). -/
def Obligations.PlayPressTurnsTheKnob : Prop :=
  ∀ (s : State) (i : Instr) (a : Int), s.bound = true → s.mode = .play →
    (IsPress s i .modSpeed a → ∃ t, exec (.setmod (noteOf a).toNat) s = .next t ∧ exec i s = .next t) ∧
    (IsPress s i .filtFreq a → ∃ t, exec (.setfilt (noteOf a).toNat) s = .next t ∧ exec i s = .next t)

/-- `TILT` in PLAY mode is `SETMOD` with the forward position and then `SETFILT` with the sideways position; in EDIT
mode it does nothing (R233). -/
def Obligations.TiltTurnsBothKnobs : Prop :=
  ∀ (s : State) (f g : Int), s.bound = true →
    (s.mode = .play → ∃ t u, exec (.setmod (tiltPos f).toNat) s = .next t ∧
      exec (.setfilt (tiltPos g).toNat) t = .next u ∧ exec (.tilt f g) s = .next u) ∧
    (s.mode = .edit → exec (.tilt f g) s = .next s)

/-- `PUP` releases in PLAY mode of a started engine and does nothing in EDIT mode (R234). -/
def Obligations.PupReleasesInPlayMode : Prop :=
  ∀ s : State, s.bound = true →
    (s.mode = .play → s.run = true → exec .pup s = .next { s with
      envState := if s.envState = .attacking ∨ s.envState = .holding then .releasing else s.envState }) ∧
    (s.mode = .edit → exec .pup s = .next s)

/-- `note_of` is the rounded quotient modulo 12; sector `n` is the 30 degrees from -105 + 30 n on, its first angle
included, modulo a full turn (R221). -/
def Obligations.NoteSectorsAreHalfOpen : Prop :=
  ∀ a : Int, 0 ≤ noteOf a ∧ noteOf a < 12 ∧ noteOf (a + 1440) = noteOf a ∧
    noteOf a = roundHalfUp (a + 1800) 120 % 12 ∧
    ∃ m : Int, -420 + 120 * noteOf a ≤ a - 1440 * m ∧ a - 1440 * m < -300 + 120 * noteOf a

/-- `knob_of`: segment `k` is the 30 degrees up to -60 + 30 k, its last angle included, modulo a full turn
(R222). -/
def Obligations.KnobSegmentsAreHalfOpen : Prop :=
  ∀ a : Int, 0 ≤ knobOf a ∧ knobOf a < 12 ∧ knobOf (a + 1440) = knobOf a ∧
    knobOf a = ⌈((a + 1680 : Int) : ℚ) / 120⌉ % 12 ∧
    ∃ m : Int, -360 + 120 * knobOf a < a - 1440 * m ∧ a - 1440 * m ≤ -240 + 120 * knobOf a

/-- Where `note_of` and `knob_of` agree and where they differ by one (R235). -/
def Obligations.NoteAndKnobDivergeAtBoundaries : Prop :=
  ∀ k a : Int,
    (-360 + 120 * k < a → a < -300 + 120 * k → noteOf a = k % 12 ∧ knobOf a = k % 12) ∧
    (-300 + 120 * k ≤ a → a ≤ -240 + 120 * k → noteOf a = (k + 1) % 12 ∧ knobOf a = k % 12)

/-- The zones by the ratio radius over distance: 3.75, 2 and 1.2 are the inner edges, each edge belongs to the inner
zone, the exact centre is the toggle, and outside the disk is FILTFREQ (R223). -/
def Obligations.ZonesFollowTheRadialMeasure : Prop :=
  ∀ d r : Nat,
    (d = 0 → zoneOf d r = .toggle) ∧
    (0 < d →
      (zoneOf d r = .toggle ↔ (15 / 4 : ℚ) ≤ (r : ℚ) / d) ∧
      (zoneOf d r = .osc ↔ 2 ≤ (r : ℚ) / d ∧ (r : ℚ) / d < 15 / 4) ∧
      (zoneOf d r = .modSpeed ↔ (6 / 5 : ℚ) ≤ (r : ℚ) / d ∧ (r : ℚ) / d < 2) ∧
      (zoneOf d r = .filtFreq ↔ (r : ℚ) / d < 6 / 5)) ∧
    (r < d → zoneOf d r = .filtFreq)

/-- `tilt_pos` clamps to 0 .. 90 degrees and rounds to the nearest of the thirteen positions, a tie going up
(R224). -/
def Obligations.TiltPositionRoundsHalfUp : Prop :=
  ∀ t : Int, 0 ≤ tiltPos t ∧ tiltPos t ≤ 12 ∧
    (t ≤ 0 → tiltPos t = 0) ∧ (360 ≤ t → tiltPos t = 12) ∧
    (0 ≤ t → t ≤ 360 → tiltPos t = roundHalfUp t 30 ∧ 30 * tiltPos t - 15 ≤ t ∧ t < 30 * tiltPos t + 15)

/-! ### The tick -/

/-- What a tick never changes: the started, bound and mode bits, the voices, the knob positions, the radius and the
fault record; it shows no read data and no redraw (R180). In IDLE the envelope is unchanged too (R185). -/
def Obligations.TickLeavesTheRestAlone : Prop :=
  ∀ (s : State) (rest : List Event), s.input = .tick :: rest →
    ∃ t, step s = .next t ∧ t.run = s.run ∧ t.bound = s.bound ∧ t.mode = s.mode ∧
      t.voice1 = s.voice1 ∧ t.voice2 = s.voice2 ∧ t.modPos = s.modPos ∧ t.filtPos = s.filtPos ∧
      t.geomR = s.geomR ∧ t.fault = s.fault ∧ t.fcode = s.fcode ∧ t.fcmd = s.fcmd ∧
      t.envE0 = s.envE0 ∧ t.rdata = 0 ∧ t.redraw = false ∧
      (s.envState = .idle → t.envState = .idle ∧ t.env = s.env ∧ t.envCnt = s.envCnt)

/-- A tick moves each ramp in flight one step along its line and leaves a ramp at rest alone (R181). -/
def Obligations.TickMovesBothRamps : Prop :=
  ∀ (s : State) (rest : List Event), Inv s → s.input = .tick :: rest →
    ∃ t, step s = .next t ∧ RampMoved s.cfg.ramp s.modUnit t.modUnit ∧
      RampMoved s.cfg.ramp s.cutUnit t.cutUnit

/-- A tick of a started engine advances the LFO phase by the increment of the modulation rate it has just reached,
modulo 2^32; before `START` the phase stands (R182). -/
def Obligations.TickAdvancesTheLfoPhase : Prop :=
  ∀ (s : State) (rest : List Event), s.input = .tick :: rest →
    ∃ t, step s = .next t ∧
      (s.run = true → t.ph.toNat = (s.ph.toNat + t.modUnit.cur.toNat * 2 ^ 20 / s.cfg.fs) % 2 ^ 32) ∧
      (s.run = false → t.ph = s.ph)

/-- A tick in ATTACKING counts, puts the gain on the attack line, never lowers it, and at the end of the line is at
`ONE` and leaves the state (R183). -/
def Obligations.TickInAttackFollowsTheLine : Prop :=
  ∀ (s : State) (rest : List Event), Inv s → s.input = .tick :: rest → s.envState = .attacking →
    ∃ t, step s = .next t ∧ t.envCnt.toNat = s.envCnt.toNat + 1 ∧ t.envE0 = s.envE0 ∧
      t.env.toNat = s.envE0.toNat + (16777216 - s.envE0.toNat) * (s.envCnt.toNat + 1) / s.cfg.attack ∧
      s.env.toNat ≤ t.env.toNat ∧
      (s.envCnt.toNat + 1 < s.cfg.attack → t.envState = .attacking) ∧
      (s.envCnt.toNat + 1 = s.cfg.attack → t.env.toNat = 16777216 ∧
        t.envState = if 0 < s.cfg.hold then .holding else .releasing)

/-- A tick in HOLDING counts, keeps the gain at `ONE`, and at `ATTACK + HOLD` starts the release (R184). -/
def Obligations.TickInHoldCountsToTheRelease : Prop :=
  ∀ (s : State) (rest : List Event), Inv s → s.input = .tick :: rest → s.envState = .holding →
    ∃ t, step s = .next t ∧ t.envCnt.toNat = s.envCnt.toNat + 1 ∧ t.envE0 = s.envE0 ∧
      t.env.toNat = 16777216 ∧
      t.envState = if s.envCnt.toNat + 1 = s.cfg.attack + s.cfg.hold then .releasing else .holding

/-- A tick in RELEASING multiplies the gain by `RMUL / 2^32`, rounded down, which lowers any gain above 0, and at 0
the envelope is IDLE; the counter and the ramp's start stay (R186). -/
def Obligations.TickInReleaseDecaysTheGain : Prop :=
  ∀ (s : State) (rest : List Event), Inv s → s.input = .tick :: rest → s.envState = .releasing →
    ∃ t, step s = .next t ∧ t.envCnt = s.envCnt ∧ t.envE0 = s.envE0 ∧
      t.env.toNat = s.env.toNat * s.cfg.rmul / 2 ^ 32 ∧
      (1 ≤ s.env.toNat → t.env.toNat < s.env.toNat) ∧
      (s.cfg.release = 0 → t.env = 0) ∧
      t.envState = if t.env = 0 then .idle else .releasing

/-- A tick counts the armed visual-off timer down; at 1 or 0 it disarms it and pulses `visoff_o`; a timer that is
not armed stays, and there is no pulse (R187). -/
def Obligations.TickCountsTheVisualTimer : Prop :=
  ∀ (s : State) (rest : List Event), s.input = .tick :: rest →
    ∃ t, step s = .next t ∧
      (s.visPend = false → t.vis = s.vis ∧ t.visPend = false ∧ t.visoff = false) ∧
      (s.visPend = true → s.vis.toNat ≤ 1 → t.vis = 0 ∧ t.visPend = false ∧ t.visoff = true) ∧
      (s.visPend = true → 1 < s.vis.toNat →
        t.vis.toNat = s.vis.toNat - 1 ∧ t.visPend = true ∧ t.visoff = false)

/-- `LFO_OUT` is the floored product of depth and shape while the engine runs, 0 otherwise and with depth 0, and
never exceeds the depth (R193). -/
def Obligations.LfoOutputIsTheScaledShape : Prop :=
  ∀ s : State, s.cfg.Limits →
    (s.run = true →
      lfoOut s = ⌊((s.cfg.depth : ℚ) * (lfoShapeAt s.cfg.lfoShape s.ph.toNat : ℤ) / 2 ^ 15 : ℚ)⌋) ∧
    (s.run = false → lfoOut s = 0) ∧ (s.cfg.depth = 0 → lfoOut s = 0) ∧
    -(s.cfg.depth : Int) ≤ lfoOut s ∧ lfoOut s ≤ s.cfg.depth

/-- `cut_o` and register 0x3B are the knob's cutoff plus `LFO_OUT`, saturated, while register 0x3A reads the knob's
cutoff itself (R194). -/
def Obligations.CutoffOutputIsModulatedAndSaturated : Prop :=
  ∀ s : State,
    (cutOut s).toNat = (min (max ((s.cutUnit.cur.toNat : Int) + lfoOut s) 0) 4294967295).toNat ∧
    (outPorts s).cutO = cutOut s ∧ regRead s 0x3B = some (cutOut s) ∧ regRead s 0x3A = some s.cutUnit.cur

/-! ### The machine as a whole -/

/-- Every step keeps the invariant (R23, R31, R35, R190, R313). -/
def Obligations.EveryStepKeepsTheInvariant : Prop :=
  ∀ s t : State, Inv s → step s = .next t → Inv t

/-- The invariant holds after reset, for every configuration that is a DVE, and at the model's reset state, whose
configuration T is the model's choice (log 2). -/
def Obligations.ResetStateMeetsTheInvariant : Prop :=
  (∀ c : Config, c.WellFormed → Inv (State.resetOf c)) ∧ Inv State.reset

/-- The reset event gives every register its value of the table of R54, whatever the state before, and pulses nothing
(R54, R300). What it does to the trace is not said here (log 12). -/
def Obligations.ResetEventGivesTheResetTable : Prop :=
  ∀ (s : State) (rest : List Event), s.input = .reset :: rest →
    ∃ t, step s = .next t ∧ t =
      { cfg := s.cfg
        voice1 := { widx := 0, oidx := 0, note := 0, freq := pitch s.cfg.voice1 0 0 }
        voice2 := { widx := 0, oidx := 0, note := 0, freq := pitch s.cfg.voice2 0 0 }
        run := false, bound := false, mode := .play
        envState := .idle, env := 0, envE0 := 0, envCnt := 0
        modPos := 0, filtPos := 0
        modUnit := { cur := saturated s.cfg.modMin, start := saturated s.cfg.modMin,
                     tgt := saturated s.cfg.modMin, rc := 0, act := false }
        cutUnit := { cur := saturated s.cfg.filtMin, start := saturated s.cfg.filtMin,
                     tgt := saturated s.cfg.filtMin, rc := 0, act := false }
        ph := 0, geomR := 0, vis := 0, visPend := false
        fault := false, fcode := 0, fcmd := 0
        rdata := 0, redraw := false, visoff := false, input := t.input }

/-- With no command presented, any number of ticks leaves the reset state unchanged (R302). -/
def Obligations.TicksAloneLeaveTheResetState : Prop :=
  ∀ (c : Config) (k : Nat),
    runSteps k { State.resetOf c with input := List.replicate k .tick } = .next (State.resetOf c)

/-- One undisturbed note, by `HIT` or by a decoder press: after the hit and `k` ticks the gain is on the attack line up to `ATTACK`, at `ONE` up to
`ATTACK + HOLD`, where the release begins, and below `ONE` afterwards, at most `ONE * (RMUL / 2^32)^m` after `m`
ticks of release (R188). -/
def Obligations.UndisturbedNoteFollowsItsEnvelope : Prop :=
  ∀ (s : State) (i : Instr) (k : Nat), Inv s → IsHit s i →
    s.input = .cmd (encode i) :: List.replicate k .tick →
    ∃ f : State, runSteps (k + 1) s = .next f ∧
      (1 ≤ k → k ≤ s.cfg.attack →
        f.env.toNat = s.env.toNat + (16777216 - s.env.toNat) * k / s.cfg.attack) ∧
      (k < s.cfg.attack → f.envState = .attacking) ∧
      (s.cfg.attack ≤ k → k ≤ s.cfg.attack + s.cfg.hold → f.env.toNat = 16777216) ∧
      (s.cfg.attack ≤ k → k < s.cfg.attack + s.cfg.hold → f.envState = .holding) ∧
      (k = s.cfg.attack + s.cfg.hold → f.envState = .releasing) ∧
      (s.cfg.attack + s.cfg.hold < k → f.env.toNat < 16777216) ∧
      (∀ m, k = s.cfg.attack + s.cfg.hold + m →
        f.env.toNat * (2 ^ 32) ^ m ≤ 16777216 * s.cfg.rmul ^ m)

/-- The 5% property: `RELEASE` ticks after the release began the gain is at most 0.0498 of what it was then
(equal only at gain 0), so an undisturbed note is below a twentieth of `ONE` after `ATTACK + HOLD + RELEASE` ticks (R189; for `RELEASE = 0` the
gain drops one tick later, R186, log 11). -/
def Obligations.ReleaseDecaysBelowFivePercent : Prop :=
  (∀ s : State, Inv s → s.envState = .releasing → 1 ≤ s.cfg.release →
    s.input = List.replicate s.cfg.release .tick →
    ∃ f : State, runSteps s.cfg.release s = .next f ∧ 10000 * f.env.toNat ≤ 498 * s.env.toNat) ∧
  (∀ (s : State) (i : Instr), Inv s → IsHit s i → 1 ≤ s.cfg.release →
    s.input = .cmd (encode i) ::
      List.replicate (s.cfg.attack + s.cfg.hold + s.cfg.release) .tick →
    ∃ f : State, runSteps (s.cfg.attack + s.cfg.hold + s.cfg.release + 1) s = .next f ∧
      20 * f.env.toNat < 16777216)

/-- A knob's parameter moves on a straight line from the value it had and is at its target from the `RAMP`-th tick
after the setter on (R146, R181, R321). -/
def Obligations.KnobArrivesInItsWindow : Prop :=
  ∀ (s : State) (pos k : Nat), Inv s → pos < 16 →
    (s.input = .cmd (encode (.setmod pos)) :: List.replicate k .tick →
      ∃ f : State, runSteps (k + 1) s = .next f ∧
        (k < s.cfg.ramp → f.modUnit.act = true ∧ (f.modUnit.cur.toNat : Int) = s.modUnit.cur.toNat +
          (((modTarget s.cfg pos).toNat : Int) - s.modUnit.cur.toNat) * k / s.cfg.ramp) ∧
        (s.cfg.ramp ≤ k → f.modUnit.act = false ∧ f.modUnit.cur = modTarget s.cfg pos)) ∧
    (s.input = .cmd (encode (.setfilt pos)) :: List.replicate k .tick →
      ∃ f : State, runSteps (k + 1) s = .next f ∧
        (k < s.cfg.ramp → f.cutUnit.act = true ∧ (f.cutUnit.cur.toNat : Int) = s.cutUnit.cur.toNat +
          (((filtTarget s.cfg pos).toNat : Int) - s.cutUnit.cur.toNat) * k / s.cfg.ramp) ∧
        (s.cfg.ramp ≤ k → f.cutUnit.act = false ∧ f.cutUnit.cur = filtTarget s.cfg pos))

/-- After a decoder hit `visoff_o` is pulsed at exactly the `NOTELEN`-th tick (the first, if `NOTELEN` is 0), whatever
timer was pending before: the new press replaces it (R187, R229, R312). -/
def Obligations.NewPressReplacesTheVisualTimer : Prop :=
  ∀ (s : State) (i : Instr) (a : Int) (k : Nat), Inv s → s.bound = true → s.run = true → s.mode = .play →
    i.wellFormed = true → IsPress s i .osc a → 1 ≤ k →
    s.input = .cmd (encode i) :: List.replicate k .tick →
    ∃ f : State, runSteps (k + 1) s = .next f ∧
      (f.visoff = true ↔ k = max 1 (s.cfg.attack + s.cfg.hold + s.cfg.release)) ∧
      (f.visPend = true ↔ k < max 1 (s.cfg.attack + s.cfg.hold + s.cfg.release))
end

