-- ==== Sys2Proof/Laws/Config.lean ====
section
/-! SUPPORT. Configurations: every LFO shape is a list of pieces (00_scope.md R5, R193), and configuration T
satisfies every constraint, the real law that ties `RMUL` to `RELEASE` among them (10_state.md R33). -/

namespace Sys2Proof.Laws

open Sys2Proof.Machine

/-- The list of one piece for each phase below `n`. -/
def piecesOf (f : Nat → Int) (n : Nat) : List LfoPiece :=
  (List.range n).map fun k => { start := k, level := f k }

theorem lfoShapeAt_append_single (ps : List LfoPiece) (p : LfoPiece) (ph : Nat) :
    lfoShapeAt (ps ++ [p]) ph = if p.start ≤ ph then p.level else lfoShapeAt ps ph := by
  simp [lfoShapeAt, List.foldl_append]

theorem piecesOf_succ (f : Nat → Int) (n : Nat) :
    piecesOf f (n + 1) = piecesOf f n ++ [{ start := n, level := f n }] := by
  simp [piecesOf, List.range_succ]

/-- Representing `LFO_SHAPE` as a list of pieces loses no shape: any function of the phase is one. -/
theorem every_shape_is_a_list_of_pieces (f : Nat → Int) (n ph : Nat) (h : ph < n) :
    lfoShapeAt (piecesOf f n) ph = f ph := by
  induction n with
  | zero => omega
  | succ n ih =>
    rw [piecesOf_succ, lfoShapeAt_append_single]
    by_cases hn : n ≤ ph
    · have : ph = n := by omega
      subst this; simp
    · rw [if_neg hn, ih (by omega)]

/-- `LFO_SHAPE` stays in its range when every level does (R193). -/
theorem lfoShapeAt_range {ps : List LfoPiece} (h : ∀ p ∈ ps, -32767 ≤ p.level ∧ p.level ≤ 32767) (ph : Nat) :
    -32767 ≤ lfoShapeAt ps ph ∧ lfoShapeAt ps ph ≤ 32767 := by
  induction ps using List.reverseRecOn with
  | nil => simp [lfoShapeAt]
  | append_singleton ps p ih =>
    rw [lfoShapeAt_append_single]
    split
    · exact h p (by simp)
    · exact ih fun q hq => h q (by simp [hq])

/-- T satisfies the constraints of R5. -/
theorem testT_limits : Config.testT.Limits := by decide

/-- `exp(-1/10)` between two decimals close enough to fix `RMUL` for `RELEASE = 30`. -/
theorem exp_neg_tenth_bounds :
    (0.904837418035959 : ℝ) < Real.exp (-(1 / 10)) ∧ Real.exp (-(1 / 10)) < 0.90483741803596 := by
  have h := Real.exp_bound (x := -(1 / 10 : ℝ)) (by rw [abs_neg]; norm_num [abs_of_pos]) (n := 12) (by norm_num)
  rw [abs_le] at h
  simp only [Finset.sum_range_succ, Finset.sum_range_zero, Nat.factorial] at h
  norm_num [abs_of_pos] at h
  constructor <;> linarith [h.1, h.2]

/-- `RMUL` of T is the value R33 ties to `RELEASE = 30`. -/
theorem testT_rmulTied : Config.testT.RmulTied := by
  have h := exp_neg_tenth_bounds
  have hr : Config.testT.release = 30 := rfl
  have hm : Config.testT.rmul = 3886247118 := rfl
  unfold Config.RmulTied
  rw [hr, hm, if_neg (by norm_num)]
  have he : (-3 / ((30 : Nat) : ℝ)) = -(1 / 10) := by norm_num
  rw [he]
  symm
  rw [Int.floor_eq_iff]
  constructor
  · push_cast; linarith [h.1]
  · push_cast; linarith [h.2]

theorem testT_wellFormed : Config.testT.WellFormed := ⟨testT_limits, testT_rmulTied⟩

/-- `RMUL / 2^32 <= exp(-3 / RELEASE)`, the property R33 names and R189 needs. -/
theorem rmul_le_exp {c : Config} (h : c.RmulTied) (hr : c.release ≠ 0) :
    (c.rmul : ℝ) / 2 ^ 32 ≤ Real.exp (-3 / (c.release : ℝ)) := by
  unfold Config.RmulTied at h
  rw [if_neg hr] at h
  have hf := Int.floor_le ((2 ^ 32 : ℝ) * Real.exp (-3 / (c.release : ℝ)))
  rw [← h] at hf
  rw [div_le_iff₀ (by positivity)]
  push_cast at hf
  linarith

end Sys2Proof.Laws
end

