-- ==== Sys2Proof/Laws/State.lean ====
section
/-! SUPPORT. One lemma per field per update of the state, each true by `rfl` (by one case split for
the two steps that choose), so that no proof unfolds a record update. -/

namespace Sys2Proof.Machine

/-! ### `State.setVoice` -/

@[simp] theorem setVoice_cfg (s : State) (v : Voice) (x : VoiceState) : (s.setVoice v x).cfg = s.cfg := rfl
@[simp] theorem setVoice_voice1 (s : State) (v : Voice) (x : VoiceState) :
    (s.setVoice v x).voice1 = pickVoice v x s.voice1 := rfl
@[simp] theorem setVoice_voice2 (s : State) (v : Voice) (x : VoiceState) :
    (s.setVoice v x).voice2 = pickVoice v s.voice2 x := rfl
@[simp] theorem setVoice_run (s : State) (v : Voice) (x : VoiceState) : (s.setVoice v x).run = s.run := rfl
@[simp] theorem setVoice_bound (s : State) (v : Voice) (x : VoiceState) : (s.setVoice v x).bound = s.bound := rfl
@[simp] theorem setVoice_mode (s : State) (v : Voice) (x : VoiceState) : (s.setVoice v x).mode = s.mode := rfl
@[simp] theorem setVoice_envState (s : State) (v : Voice) (x : VoiceState) :
    (s.setVoice v x).envState = s.envState := rfl
@[simp] theorem setVoice_env (s : State) (v : Voice) (x : VoiceState) : (s.setVoice v x).env = s.env := rfl
@[simp] theorem setVoice_envE0 (s : State) (v : Voice) (x : VoiceState) : (s.setVoice v x).envE0 = s.envE0 := rfl
@[simp] theorem setVoice_envCnt (s : State) (v : Voice) (x : VoiceState) : (s.setVoice v x).envCnt = s.envCnt := rfl
@[simp] theorem setVoice_modPos (s : State) (v : Voice) (x : VoiceState) : (s.setVoice v x).modPos = s.modPos := rfl
@[simp] theorem setVoice_filtPos (s : State) (v : Voice) (x : VoiceState) :
    (s.setVoice v x).filtPos = s.filtPos := rfl
@[simp] theorem setVoice_modUnit (s : State) (v : Voice) (x : VoiceState) :
    (s.setVoice v x).modUnit = s.modUnit := rfl
@[simp] theorem setVoice_cutUnit (s : State) (v : Voice) (x : VoiceState) :
    (s.setVoice v x).cutUnit = s.cutUnit := rfl
@[simp] theorem setVoice_ph (s : State) (v : Voice) (x : VoiceState) : (s.setVoice v x).ph = s.ph := rfl
@[simp] theorem setVoice_geomR (s : State) (v : Voice) (x : VoiceState) : (s.setVoice v x).geomR = s.geomR := rfl
@[simp] theorem setVoice_vis (s : State) (v : Voice) (x : VoiceState) : (s.setVoice v x).vis = s.vis := rfl
@[simp] theorem setVoice_visPend (s : State) (v : Voice) (x : VoiceState) :
    (s.setVoice v x).visPend = s.visPend := rfl
@[simp] theorem setVoice_fault (s : State) (v : Voice) (x : VoiceState) : (s.setVoice v x).fault = s.fault := rfl
@[simp] theorem setVoice_fcode (s : State) (v : Voice) (x : VoiceState) : (s.setVoice v x).fcode = s.fcode := rfl
@[simp] theorem setVoice_fcmd (s : State) (v : Voice) (x : VoiceState) : (s.setVoice v x).fcmd = s.fcmd := rfl
@[simp] theorem setVoice_rdata (s : State) (v : Voice) (x : VoiceState) : (s.setVoice v x).rdata = s.rdata := rfl
@[simp] theorem setVoice_redraw (s : State) (v : Voice) (x : VoiceState) : (s.setVoice v x).redraw = s.redraw := rfl
@[simp] theorem setVoice_visoff (s : State) (v : Voice) (x : VoiceState) : (s.setVoice v x).visoff = s.visoff := rfl
@[simp] theorem setVoice_input (s : State) (v : Voice) (x : VoiceState) : (s.setVoice v x).input = s.input := rfl

/-! ### `State.setRampUnit` -/

@[simp] theorem setRampUnit_cfg (s : State) (u : RampId) (x : RampUnit) : (s.setRampUnit u x).cfg = s.cfg := rfl
@[simp] theorem setRampUnit_voice1 (s : State) (u : RampId) (x : RampUnit) :
    (s.setRampUnit u x).voice1 = s.voice1 := rfl
@[simp] theorem setRampUnit_voice2 (s : State) (u : RampId) (x : RampUnit) :
    (s.setRampUnit u x).voice2 = s.voice2 := rfl
@[simp] theorem setRampUnit_run (s : State) (u : RampId) (x : RampUnit) : (s.setRampUnit u x).run = s.run := rfl
@[simp] theorem setRampUnit_bound (s : State) (u : RampId) (x : RampUnit) : (s.setRampUnit u x).bound = s.bound := rfl
@[simp] theorem setRampUnit_mode (s : State) (u : RampId) (x : RampUnit) : (s.setRampUnit u x).mode = s.mode := rfl
@[simp] theorem setRampUnit_envState (s : State) (u : RampId) (x : RampUnit) :
    (s.setRampUnit u x).envState = s.envState := rfl
@[simp] theorem setRampUnit_env (s : State) (u : RampId) (x : RampUnit) : (s.setRampUnit u x).env = s.env := rfl
@[simp] theorem setRampUnit_envE0 (s : State) (u : RampId) (x : RampUnit) : (s.setRampUnit u x).envE0 = s.envE0 := rfl
@[simp] theorem setRampUnit_envCnt (s : State) (u : RampId) (x : RampUnit) :
    (s.setRampUnit u x).envCnt = s.envCnt := rfl
@[simp] theorem setRampUnit_modPos (s : State) (u : RampId) (x : RampUnit) :
    (s.setRampUnit u x).modPos = s.modPos := rfl
@[simp] theorem setRampUnit_filtPos (s : State) (u : RampId) (x : RampUnit) :
    (s.setRampUnit u x).filtPos = s.filtPos := rfl
@[simp] theorem setRampUnit_modUnit (s : State) (u : RampId) (x : RampUnit) :
    (s.setRampUnit u x).modUnit = pickRamp u x s.modUnit := rfl
@[simp] theorem setRampUnit_cutUnit (s : State) (u : RampId) (x : RampUnit) :
    (s.setRampUnit u x).cutUnit = pickRamp u s.cutUnit x := rfl
@[simp] theorem setRampUnit_ph (s : State) (u : RampId) (x : RampUnit) : (s.setRampUnit u x).ph = s.ph := rfl
@[simp] theorem setRampUnit_geomR (s : State) (u : RampId) (x : RampUnit) : (s.setRampUnit u x).geomR = s.geomR := rfl
@[simp] theorem setRampUnit_vis (s : State) (u : RampId) (x : RampUnit) : (s.setRampUnit u x).vis = s.vis := rfl
@[simp] theorem setRampUnit_visPend (s : State) (u : RampId) (x : RampUnit) :
    (s.setRampUnit u x).visPend = s.visPend := rfl
@[simp] theorem setRampUnit_fault (s : State) (u : RampId) (x : RampUnit) : (s.setRampUnit u x).fault = s.fault := rfl
@[simp] theorem setRampUnit_fcode (s : State) (u : RampId) (x : RampUnit) : (s.setRampUnit u x).fcode = s.fcode := rfl
@[simp] theorem setRampUnit_fcmd (s : State) (u : RampId) (x : RampUnit) : (s.setRampUnit u x).fcmd = s.fcmd := rfl
@[simp] theorem setRampUnit_rdata (s : State) (u : RampId) (x : RampUnit) : (s.setRampUnit u x).rdata = s.rdata := rfl
@[simp] theorem setRampUnit_redraw (s : State) (u : RampId) (x : RampUnit) :
    (s.setRampUnit u x).redraw = s.redraw := rfl
@[simp] theorem setRampUnit_visoff (s : State) (u : RampId) (x : RampUnit) :
    (s.setRampUnit u x).visoff = s.visoff := rfl
@[simp] theorem setRampUnit_input (s : State) (u : RampId) (x : RampUnit) : (s.setRampUnit u x).input = s.input := rfl

/-! ### `raiseFault` (R272) -/

@[simp] theorem raiseFault_cfg (c : FaultCode) (w : Word) (s : State) : (raiseFault c w s).cfg = s.cfg := rfl
@[simp] theorem raiseFault_voice1 (c : FaultCode) (w : Word) (s : State) : (raiseFault c w s).voice1 = s.voice1 := rfl
@[simp] theorem raiseFault_voice2 (c : FaultCode) (w : Word) (s : State) : (raiseFault c w s).voice2 = s.voice2 := rfl
@[simp] theorem raiseFault_run (c : FaultCode) (w : Word) (s : State) : (raiseFault c w s).run = s.run := rfl
@[simp] theorem raiseFault_bound (c : FaultCode) (w : Word) (s : State) : (raiseFault c w s).bound = s.bound := rfl
@[simp] theorem raiseFault_mode (c : FaultCode) (w : Word) (s : State) : (raiseFault c w s).mode = s.mode := rfl
@[simp] theorem raiseFault_envState (c : FaultCode) (w : Word) (s : State) :
    (raiseFault c w s).envState = s.envState := rfl
@[simp] theorem raiseFault_env (c : FaultCode) (w : Word) (s : State) : (raiseFault c w s).env = s.env := rfl
@[simp] theorem raiseFault_envE0 (c : FaultCode) (w : Word) (s : State) : (raiseFault c w s).envE0 = s.envE0 := rfl
@[simp] theorem raiseFault_envCnt (c : FaultCode) (w : Word) (s : State) : (raiseFault c w s).envCnt = s.envCnt := rfl
@[simp] theorem raiseFault_modPos (c : FaultCode) (w : Word) (s : State) : (raiseFault c w s).modPos = s.modPos := rfl
@[simp] theorem raiseFault_filtPos (c : FaultCode) (w : Word) (s : State) :
    (raiseFault c w s).filtPos = s.filtPos := rfl
@[simp] theorem raiseFault_modUnit (c : FaultCode) (w : Word) (s : State) :
    (raiseFault c w s).modUnit = s.modUnit := rfl
@[simp] theorem raiseFault_cutUnit (c : FaultCode) (w : Word) (s : State) :
    (raiseFault c w s).cutUnit = s.cutUnit := rfl
@[simp] theorem raiseFault_ph (c : FaultCode) (w : Word) (s : State) : (raiseFault c w s).ph = s.ph := rfl
@[simp] theorem raiseFault_geomR (c : FaultCode) (w : Word) (s : State) : (raiseFault c w s).geomR = s.geomR := rfl
@[simp] theorem raiseFault_vis (c : FaultCode) (w : Word) (s : State) : (raiseFault c w s).vis = s.vis := rfl
@[simp] theorem raiseFault_visPend (c : FaultCode) (w : Word) (s : State) :
    (raiseFault c w s).visPend = s.visPend := rfl
@[simp] theorem raiseFault_fault (c : FaultCode) (w : Word) (s : State) : (raiseFault c w s).fault = true := rfl
@[simp] theorem raiseFault_fcode (c : FaultCode) (w : Word) (s : State) :
    (raiseFault c w s).fcode = if s.fault then s.fcode else faultNumber c := rfl
@[simp] theorem raiseFault_fcmd (c : FaultCode) (w : Word) (s : State) :
    (raiseFault c w s).fcmd = if s.fault then s.fcmd else w := rfl
@[simp] theorem raiseFault_rdata (c : FaultCode) (w : Word) (s : State) : (raiseFault c w s).rdata = s.rdata := rfl
@[simp] theorem raiseFault_redraw (c : FaultCode) (w : Word) (s : State) : (raiseFault c w s).redraw = s.redraw := rfl
@[simp] theorem raiseFault_visoff (c : FaultCode) (w : Word) (s : State) : (raiseFault c w s).visoff = s.visoff := rfl
@[simp] theorem raiseFault_input (c : FaultCode) (w : Word) (s : State) : (raiseFault c w s).input = s.input := rfl

/-! ### `State.beginEvent` -/

@[simp] theorem beginEvent_cfg (s : State) (rest : List Event) : (s.beginEvent rest).cfg = s.cfg := rfl
@[simp] theorem beginEvent_voice1 (s : State) (rest : List Event) : (s.beginEvent rest).voice1 = s.voice1 := rfl
@[simp] theorem beginEvent_voice2 (s : State) (rest : List Event) : (s.beginEvent rest).voice2 = s.voice2 := rfl
@[simp] theorem beginEvent_run (s : State) (rest : List Event) : (s.beginEvent rest).run = s.run := rfl
@[simp] theorem beginEvent_bound (s : State) (rest : List Event) : (s.beginEvent rest).bound = s.bound := rfl
@[simp] theorem beginEvent_mode (s : State) (rest : List Event) : (s.beginEvent rest).mode = s.mode := rfl
@[simp] theorem beginEvent_envState (s : State) (rest : List Event) : (s.beginEvent rest).envState = s.envState := rfl
@[simp] theorem beginEvent_env (s : State) (rest : List Event) : (s.beginEvent rest).env = s.env := rfl
@[simp] theorem beginEvent_envE0 (s : State) (rest : List Event) : (s.beginEvent rest).envE0 = s.envE0 := rfl
@[simp] theorem beginEvent_envCnt (s : State) (rest : List Event) : (s.beginEvent rest).envCnt = s.envCnt := rfl
@[simp] theorem beginEvent_modPos (s : State) (rest : List Event) : (s.beginEvent rest).modPos = s.modPos := rfl
@[simp] theorem beginEvent_filtPos (s : State) (rest : List Event) : (s.beginEvent rest).filtPos = s.filtPos := rfl
@[simp] theorem beginEvent_modUnit (s : State) (rest : List Event) : (s.beginEvent rest).modUnit = s.modUnit := rfl
@[simp] theorem beginEvent_cutUnit (s : State) (rest : List Event) : (s.beginEvent rest).cutUnit = s.cutUnit := rfl
@[simp] theorem beginEvent_ph (s : State) (rest : List Event) : (s.beginEvent rest).ph = s.ph := rfl
@[simp] theorem beginEvent_geomR (s : State) (rest : List Event) : (s.beginEvent rest).geomR = s.geomR := rfl
@[simp] theorem beginEvent_vis (s : State) (rest : List Event) : (s.beginEvent rest).vis = s.vis := rfl
@[simp] theorem beginEvent_visPend (s : State) (rest : List Event) : (s.beginEvent rest).visPend = s.visPend := rfl
@[simp] theorem beginEvent_fault (s : State) (rest : List Event) : (s.beginEvent rest).fault = s.fault := rfl
@[simp] theorem beginEvent_fcode (s : State) (rest : List Event) : (s.beginEvent rest).fcode = s.fcode := rfl
@[simp] theorem beginEvent_fcmd (s : State) (rest : List Event) : (s.beginEvent rest).fcmd = s.fcmd := rfl
@[simp] theorem beginEvent_rdata (s : State) (rest : List Event) : (s.beginEvent rest).rdata = 0 := rfl
@[simp] theorem beginEvent_redraw (s : State) (rest : List Event) : (s.beginEvent rest).redraw = false := rfl
@[simp] theorem beginEvent_visoff (s : State) (rest : List Event) : (s.beginEvent rest).visoff = false := rfl
@[simp] theorem beginEvent_input (s : State) (rest : List Event) : (s.beginEvent rest).input = rest := rfl

/-! ### `startAttack` (R142) -/

@[simp] theorem startAttack_cfg (s : State) : (startAttack s).cfg = s.cfg := rfl
@[simp] theorem startAttack_voice1 (s : State) : (startAttack s).voice1 = s.voice1 := rfl
@[simp] theorem startAttack_voice2 (s : State) : (startAttack s).voice2 = s.voice2 := rfl
@[simp] theorem startAttack_run (s : State) : (startAttack s).run = s.run := rfl
@[simp] theorem startAttack_bound (s : State) : (startAttack s).bound = s.bound := rfl
@[simp] theorem startAttack_mode (s : State) : (startAttack s).mode = s.mode := rfl
@[simp] theorem startAttack_envState (s : State) :
    (startAttack s).envState = if s.cfg.attack = 0 then (if 0 < s.cfg.hold then .holding else .releasing) else .attacking := rfl
@[simp] theorem startAttack_env (s : State) :
    (startAttack s).env = if s.cfg.attack = 0 then BitVec.ofNat 25 gainOne else s.env := rfl
@[simp] theorem startAttack_envE0 (s : State) : (startAttack s).envE0 = s.env := rfl
@[simp] theorem startAttack_envCnt (s : State) : (startAttack s).envCnt = 0 := rfl
@[simp] theorem startAttack_modPos (s : State) : (startAttack s).modPos = s.modPos := rfl
@[simp] theorem startAttack_filtPos (s : State) : (startAttack s).filtPos = s.filtPos := rfl
@[simp] theorem startAttack_modUnit (s : State) : (startAttack s).modUnit = s.modUnit := rfl
@[simp] theorem startAttack_cutUnit (s : State) : (startAttack s).cutUnit = s.cutUnit := rfl
@[simp] theorem startAttack_ph (s : State) : (startAttack s).ph = s.ph := rfl
@[simp] theorem startAttack_geomR (s : State) : (startAttack s).geomR = s.geomR := rfl
@[simp] theorem startAttack_vis (s : State) : (startAttack s).vis = s.vis := rfl
@[simp] theorem startAttack_visPend (s : State) : (startAttack s).visPend = s.visPend := rfl
@[simp] theorem startAttack_fault (s : State) : (startAttack s).fault = s.fault := rfl
@[simp] theorem startAttack_fcode (s : State) : (startAttack s).fcode = s.fcode := rfl
@[simp] theorem startAttack_fcmd (s : State) : (startAttack s).fcmd = s.fcmd := rfl
@[simp] theorem startAttack_rdata (s : State) : (startAttack s).rdata = s.rdata := rfl
@[simp] theorem startAttack_redraw (s : State) : (startAttack s).redraw = s.redraw := rfl
@[simp] theorem startAttack_visoff (s : State) : (startAttack s).visoff = s.visoff := rfl
@[simp] theorem startAttack_input (s : State) : (startAttack s).input = s.input := rfl

/-! ### `doRelease` (R143) -/

@[simp] theorem doRelease_cfg (s : State) : (doRelease s).cfg = s.cfg := rfl
@[simp] theorem doRelease_voice1 (s : State) : (doRelease s).voice1 = s.voice1 := rfl
@[simp] theorem doRelease_voice2 (s : State) : (doRelease s).voice2 = s.voice2 := rfl
@[simp] theorem doRelease_run (s : State) : (doRelease s).run = s.run := rfl
@[simp] theorem doRelease_bound (s : State) : (doRelease s).bound = s.bound := rfl
@[simp] theorem doRelease_mode (s : State) : (doRelease s).mode = s.mode := rfl
@[simp] theorem doRelease_env (s : State) : (doRelease s).env = s.env := rfl
@[simp] theorem doRelease_envE0 (s : State) : (doRelease s).envE0 = s.envE0 := rfl
@[simp] theorem doRelease_envCnt (s : State) : (doRelease s).envCnt = s.envCnt := rfl
@[simp] theorem doRelease_modPos (s : State) : (doRelease s).modPos = s.modPos := rfl
@[simp] theorem doRelease_filtPos (s : State) : (doRelease s).filtPos = s.filtPos := rfl
@[simp] theorem doRelease_modUnit (s : State) : (doRelease s).modUnit = s.modUnit := rfl
@[simp] theorem doRelease_cutUnit (s : State) : (doRelease s).cutUnit = s.cutUnit := rfl
@[simp] theorem doRelease_ph (s : State) : (doRelease s).ph = s.ph := rfl
@[simp] theorem doRelease_geomR (s : State) : (doRelease s).geomR = s.geomR := rfl
@[simp] theorem doRelease_vis (s : State) : (doRelease s).vis = s.vis := rfl
@[simp] theorem doRelease_visPend (s : State) : (doRelease s).visPend = s.visPend := rfl
@[simp] theorem doRelease_fault (s : State) : (doRelease s).fault = s.fault := rfl
@[simp] theorem doRelease_fcode (s : State) : (doRelease s).fcode = s.fcode := rfl
@[simp] theorem doRelease_fcmd (s : State) : (doRelease s).fcmd = s.fcmd := rfl
@[simp] theorem doRelease_rdata (s : State) : (doRelease s).rdata = s.rdata := rfl
@[simp] theorem doRelease_redraw (s : State) : (doRelease s).redraw = s.redraw := rfl
@[simp] theorem doRelease_visoff (s : State) : (doRelease s).visoff = s.visoff := rfl
@[simp] theorem doRelease_input (s : State) : (doRelease s).input = s.input := rfl

/-! ### `toggleMode` (R227) -/

@[simp] theorem toggleMode_cfg (s : State) : (toggleMode s).cfg = s.cfg := rfl
@[simp] theorem toggleMode_voice1 (s : State) : (toggleMode s).voice1 = s.voice1 := rfl
@[simp] theorem toggleMode_voice2 (s : State) : (toggleMode s).voice2 = s.voice2 := rfl
@[simp] theorem toggleMode_run (s : State) : (toggleMode s).run = s.run := rfl
@[simp] theorem toggleMode_bound (s : State) : (toggleMode s).bound = s.bound := rfl
@[simp] theorem toggleMode_mode (s : State) : (toggleMode s).mode = flipMode s.mode := rfl
@[simp] theorem toggleMode_envState (s : State) : (toggleMode s).envState = s.envState := rfl
@[simp] theorem toggleMode_env (s : State) : (toggleMode s).env = s.env := rfl
@[simp] theorem toggleMode_envE0 (s : State) : (toggleMode s).envE0 = s.envE0 := rfl
@[simp] theorem toggleMode_envCnt (s : State) : (toggleMode s).envCnt = s.envCnt := rfl
@[simp] theorem toggleMode_modPos (s : State) : (toggleMode s).modPos = s.modPos := rfl
@[simp] theorem toggleMode_filtPos (s : State) : (toggleMode s).filtPos = s.filtPos := rfl
@[simp] theorem toggleMode_modUnit (s : State) : (toggleMode s).modUnit = s.modUnit := rfl
@[simp] theorem toggleMode_cutUnit (s : State) : (toggleMode s).cutUnit = s.cutUnit := rfl
@[simp] theorem toggleMode_ph (s : State) : (toggleMode s).ph = s.ph := rfl
@[simp] theorem toggleMode_geomR (s : State) : (toggleMode s).geomR = s.geomR := rfl
@[simp] theorem toggleMode_vis (s : State) : (toggleMode s).vis = s.vis := rfl
@[simp] theorem toggleMode_visPend (s : State) : (toggleMode s).visPend = s.visPend := rfl
@[simp] theorem toggleMode_fault (s : State) : (toggleMode s).fault = s.fault := rfl
@[simp] theorem toggleMode_fcode (s : State) : (toggleMode s).fcode = s.fcode := rfl
@[simp] theorem toggleMode_fcmd (s : State) : (toggleMode s).fcmd = s.fcmd := rfl
@[simp] theorem toggleMode_rdata (s : State) : (toggleMode s).rdata = s.rdata := rfl
@[simp] theorem toggleMode_redraw (s : State) : (toggleMode s).redraw = true := rfl
@[simp] theorem toggleMode_visoff (s : State) : (toggleMode s).visoff = s.visoff := rfl
@[simp] theorem toggleMode_input (s : State) : (toggleMode s).input = s.input := rfl

/-! ### `armVisOff` (R229) -/

@[simp] theorem armVisOff_cfg (s : State) : (armVisOff s).cfg = s.cfg := rfl
@[simp] theorem armVisOff_voice1 (s : State) : (armVisOff s).voice1 = s.voice1 := rfl
@[simp] theorem armVisOff_voice2 (s : State) : (armVisOff s).voice2 = s.voice2 := rfl
@[simp] theorem armVisOff_run (s : State) : (armVisOff s).run = s.run := rfl
@[simp] theorem armVisOff_bound (s : State) : (armVisOff s).bound = s.bound := rfl
@[simp] theorem armVisOff_mode (s : State) : (armVisOff s).mode = s.mode := rfl
@[simp] theorem armVisOff_envState (s : State) : (armVisOff s).envState = s.envState := rfl
@[simp] theorem armVisOff_env (s : State) : (armVisOff s).env = s.env := rfl
@[simp] theorem armVisOff_envE0 (s : State) : (armVisOff s).envE0 = s.envE0 := rfl
@[simp] theorem armVisOff_envCnt (s : State) : (armVisOff s).envCnt = s.envCnt := rfl
@[simp] theorem armVisOff_modPos (s : State) : (armVisOff s).modPos = s.modPos := rfl
@[simp] theorem armVisOff_filtPos (s : State) : (armVisOff s).filtPos = s.filtPos := rfl
@[simp] theorem armVisOff_modUnit (s : State) : (armVisOff s).modUnit = s.modUnit := rfl
@[simp] theorem armVisOff_cutUnit (s : State) : (armVisOff s).cutUnit = s.cutUnit := rfl
@[simp] theorem armVisOff_ph (s : State) : (armVisOff s).ph = s.ph := rfl
@[simp] theorem armVisOff_geomR (s : State) : (armVisOff s).geomR = s.geomR := rfl
@[simp] theorem armVisOff_vis (s : State) : (armVisOff s).vis = BitVec.ofNat 32 (noteLen s.cfg) := rfl
@[simp] theorem armVisOff_visPend (s : State) : (armVisOff s).visPend = true := rfl
@[simp] theorem armVisOff_fault (s : State) : (armVisOff s).fault = s.fault := rfl
@[simp] theorem armVisOff_fcode (s : State) : (armVisOff s).fcode = s.fcode := rfl
@[simp] theorem armVisOff_fcmd (s : State) : (armVisOff s).fcmd = s.fcmd := rfl
@[simp] theorem armVisOff_rdata (s : State) : (armVisOff s).rdata = s.rdata := rfl
@[simp] theorem armVisOff_redraw (s : State) : (armVisOff s).redraw = s.redraw := rfl
@[simp] theorem armVisOff_visoff (s : State) : (armVisOff s).visoff = s.visoff := rfl
@[simp] theorem armVisOff_input (s : State) : (armVisOff s).input = s.input := rfl

/-! ### `lfoStep` (R182) -/

@[simp] theorem lfoStep_cfg (s : State) : (lfoStep s).cfg = s.cfg := rfl
@[simp] theorem lfoStep_voice1 (s : State) : (lfoStep s).voice1 = s.voice1 := rfl
@[simp] theorem lfoStep_voice2 (s : State) : (lfoStep s).voice2 = s.voice2 := rfl
@[simp] theorem lfoStep_run (s : State) : (lfoStep s).run = s.run := rfl
@[simp] theorem lfoStep_bound (s : State) : (lfoStep s).bound = s.bound := rfl
@[simp] theorem lfoStep_mode (s : State) : (lfoStep s).mode = s.mode := rfl
@[simp] theorem lfoStep_envState (s : State) : (lfoStep s).envState = s.envState := rfl
@[simp] theorem lfoStep_env (s : State) : (lfoStep s).env = s.env := rfl
@[simp] theorem lfoStep_envE0 (s : State) : (lfoStep s).envE0 = s.envE0 := rfl
@[simp] theorem lfoStep_envCnt (s : State) : (lfoStep s).envCnt = s.envCnt := rfl
@[simp] theorem lfoStep_modPos (s : State) : (lfoStep s).modPos = s.modPos := rfl
@[simp] theorem lfoStep_filtPos (s : State) : (lfoStep s).filtPos = s.filtPos := rfl
@[simp] theorem lfoStep_modUnit (s : State) : (lfoStep s).modUnit = s.modUnit := rfl
@[simp] theorem lfoStep_cutUnit (s : State) : (lfoStep s).cutUnit = s.cutUnit := rfl
@[simp] theorem lfoStep_ph (s : State) :
    (lfoStep s).ph = if s.run then s.ph + BitVec.ofNat 32 (lfoIncrement s.cfg s.modUnit.cur) else s.ph := rfl
@[simp] theorem lfoStep_geomR (s : State) : (lfoStep s).geomR = s.geomR := rfl
@[simp] theorem lfoStep_vis (s : State) : (lfoStep s).vis = s.vis := rfl
@[simp] theorem lfoStep_visPend (s : State) : (lfoStep s).visPend = s.visPend := rfl
@[simp] theorem lfoStep_fault (s : State) : (lfoStep s).fault = s.fault := rfl
@[simp] theorem lfoStep_fcode (s : State) : (lfoStep s).fcode = s.fcode := rfl
@[simp] theorem lfoStep_fcmd (s : State) : (lfoStep s).fcmd = s.fcmd := rfl
@[simp] theorem lfoStep_rdata (s : State) : (lfoStep s).rdata = s.rdata := rfl
@[simp] theorem lfoStep_redraw (s : State) : (lfoStep s).redraw = s.redraw := rfl
@[simp] theorem lfoStep_visoff (s : State) : (lfoStep s).visoff = s.visoff := rfl
@[simp] theorem lfoStep_input (s : State) : (lfoStep s).input = s.input := rfl

/-! ### `envAttackStep` (R183) -/

@[simp] theorem envAttackStep_cfg (s : State) : (envAttackStep s).cfg = s.cfg := rfl
@[simp] theorem envAttackStep_voice1 (s : State) : (envAttackStep s).voice1 = s.voice1 := rfl
@[simp] theorem envAttackStep_voice2 (s : State) : (envAttackStep s).voice2 = s.voice2 := rfl
@[simp] theorem envAttackStep_run (s : State) : (envAttackStep s).run = s.run := rfl
@[simp] theorem envAttackStep_bound (s : State) : (envAttackStep s).bound = s.bound := rfl
@[simp] theorem envAttackStep_mode (s : State) : (envAttackStep s).mode = s.mode := rfl
@[simp] theorem envAttackStep_envE0 (s : State) : (envAttackStep s).envE0 = s.envE0 := rfl
@[simp] theorem envAttackStep_envCnt (s : State) : (envAttackStep s).envCnt = s.envCnt + 1 := rfl
@[simp] theorem envAttackStep_modPos (s : State) : (envAttackStep s).modPos = s.modPos := rfl
@[simp] theorem envAttackStep_filtPos (s : State) : (envAttackStep s).filtPos = s.filtPos := rfl
@[simp] theorem envAttackStep_modUnit (s : State) : (envAttackStep s).modUnit = s.modUnit := rfl
@[simp] theorem envAttackStep_cutUnit (s : State) : (envAttackStep s).cutUnit = s.cutUnit := rfl
@[simp] theorem envAttackStep_ph (s : State) : (envAttackStep s).ph = s.ph := rfl
@[simp] theorem envAttackStep_geomR (s : State) : (envAttackStep s).geomR = s.geomR := rfl
@[simp] theorem envAttackStep_vis (s : State) : (envAttackStep s).vis = s.vis := rfl
@[simp] theorem envAttackStep_visPend (s : State) : (envAttackStep s).visPend = s.visPend := rfl
@[simp] theorem envAttackStep_fault (s : State) : (envAttackStep s).fault = s.fault := rfl
@[simp] theorem envAttackStep_fcode (s : State) : (envAttackStep s).fcode = s.fcode := rfl
@[simp] theorem envAttackStep_fcmd (s : State) : (envAttackStep s).fcmd = s.fcmd := rfl
@[simp] theorem envAttackStep_rdata (s : State) : (envAttackStep s).rdata = s.rdata := rfl
@[simp] theorem envAttackStep_redraw (s : State) : (envAttackStep s).redraw = s.redraw := rfl
@[simp] theorem envAttackStep_visoff (s : State) : (envAttackStep s).visoff = s.visoff := rfl
@[simp] theorem envAttackStep_input (s : State) : (envAttackStep s).input = s.input := rfl

/-! ### `envHoldStep` (R184) -/

@[simp] theorem envHoldStep_cfg (s : State) : (envHoldStep s).cfg = s.cfg := rfl
@[simp] theorem envHoldStep_voice1 (s : State) : (envHoldStep s).voice1 = s.voice1 := rfl
@[simp] theorem envHoldStep_voice2 (s : State) : (envHoldStep s).voice2 = s.voice2 := rfl
@[simp] theorem envHoldStep_run (s : State) : (envHoldStep s).run = s.run := rfl
@[simp] theorem envHoldStep_bound (s : State) : (envHoldStep s).bound = s.bound := rfl
@[simp] theorem envHoldStep_mode (s : State) : (envHoldStep s).mode = s.mode := rfl
@[simp] theorem envHoldStep_env (s : State) : (envHoldStep s).env = s.env := rfl
@[simp] theorem envHoldStep_envE0 (s : State) : (envHoldStep s).envE0 = s.envE0 := rfl
@[simp] theorem envHoldStep_envCnt (s : State) : (envHoldStep s).envCnt = s.envCnt + 1 := rfl
@[simp] theorem envHoldStep_modPos (s : State) : (envHoldStep s).modPos = s.modPos := rfl
@[simp] theorem envHoldStep_filtPos (s : State) : (envHoldStep s).filtPos = s.filtPos := rfl
@[simp] theorem envHoldStep_modUnit (s : State) : (envHoldStep s).modUnit = s.modUnit := rfl
@[simp] theorem envHoldStep_cutUnit (s : State) : (envHoldStep s).cutUnit = s.cutUnit := rfl
@[simp] theorem envHoldStep_ph (s : State) : (envHoldStep s).ph = s.ph := rfl
@[simp] theorem envHoldStep_geomR (s : State) : (envHoldStep s).geomR = s.geomR := rfl
@[simp] theorem envHoldStep_vis (s : State) : (envHoldStep s).vis = s.vis := rfl
@[simp] theorem envHoldStep_visPend (s : State) : (envHoldStep s).visPend = s.visPend := rfl
@[simp] theorem envHoldStep_fault (s : State) : (envHoldStep s).fault = s.fault := rfl
@[simp] theorem envHoldStep_fcode (s : State) : (envHoldStep s).fcode = s.fcode := rfl
@[simp] theorem envHoldStep_fcmd (s : State) : (envHoldStep s).fcmd = s.fcmd := rfl
@[simp] theorem envHoldStep_rdata (s : State) : (envHoldStep s).rdata = s.rdata := rfl
@[simp] theorem envHoldStep_redraw (s : State) : (envHoldStep s).redraw = s.redraw := rfl
@[simp] theorem envHoldStep_visoff (s : State) : (envHoldStep s).visoff = s.visoff := rfl
@[simp] theorem envHoldStep_input (s : State) : (envHoldStep s).input = s.input := rfl

/-! ### `envReleaseStep` (R186) -/

@[simp] theorem envReleaseStep_cfg (s : State) : (envReleaseStep s).cfg = s.cfg := rfl
@[simp] theorem envReleaseStep_voice1 (s : State) : (envReleaseStep s).voice1 = s.voice1 := rfl
@[simp] theorem envReleaseStep_voice2 (s : State) : (envReleaseStep s).voice2 = s.voice2 := rfl
@[simp] theorem envReleaseStep_run (s : State) : (envReleaseStep s).run = s.run := rfl
@[simp] theorem envReleaseStep_bound (s : State) : (envReleaseStep s).bound = s.bound := rfl
@[simp] theorem envReleaseStep_mode (s : State) : (envReleaseStep s).mode = s.mode := rfl
@[simp] theorem envReleaseStep_env (s : State) : (envReleaseStep s).env = decayGain s.cfg s.env := rfl
@[simp] theorem envReleaseStep_envE0 (s : State) : (envReleaseStep s).envE0 = s.envE0 := rfl
@[simp] theorem envReleaseStep_envCnt (s : State) : (envReleaseStep s).envCnt = s.envCnt := rfl
@[simp] theorem envReleaseStep_modPos (s : State) : (envReleaseStep s).modPos = s.modPos := rfl
@[simp] theorem envReleaseStep_filtPos (s : State) : (envReleaseStep s).filtPos = s.filtPos := rfl
@[simp] theorem envReleaseStep_modUnit (s : State) : (envReleaseStep s).modUnit = s.modUnit := rfl
@[simp] theorem envReleaseStep_cutUnit (s : State) : (envReleaseStep s).cutUnit = s.cutUnit := rfl
@[simp] theorem envReleaseStep_ph (s : State) : (envReleaseStep s).ph = s.ph := rfl
@[simp] theorem envReleaseStep_geomR (s : State) : (envReleaseStep s).geomR = s.geomR := rfl
@[simp] theorem envReleaseStep_vis (s : State) : (envReleaseStep s).vis = s.vis := rfl
@[simp] theorem envReleaseStep_visPend (s : State) : (envReleaseStep s).visPend = s.visPend := rfl
@[simp] theorem envReleaseStep_fault (s : State) : (envReleaseStep s).fault = s.fault := rfl
@[simp] theorem envReleaseStep_fcode (s : State) : (envReleaseStep s).fcode = s.fcode := rfl
@[simp] theorem envReleaseStep_fcmd (s : State) : (envReleaseStep s).fcmd = s.fcmd := rfl
@[simp] theorem envReleaseStep_rdata (s : State) : (envReleaseStep s).rdata = s.rdata := rfl
@[simp] theorem envReleaseStep_redraw (s : State) : (envReleaseStep s).redraw = s.redraw := rfl
@[simp] theorem envReleaseStep_visoff (s : State) : (envReleaseStep s).visoff = s.visoff := rfl
@[simp] theorem envReleaseStep_input (s : State) : (envReleaseStep s).input = s.input := rfl

/-! ### `rampStep` (R181) -/

@[simp] theorem rampStep_cfg (u : RampId) (s : State) : (rampStep u s).cfg = s.cfg := rfl
@[simp] theorem rampStep_voice1 (u : RampId) (s : State) : (rampStep u s).voice1 = s.voice1 := rfl
@[simp] theorem rampStep_voice2 (u : RampId) (s : State) : (rampStep u s).voice2 = s.voice2 := rfl
@[simp] theorem rampStep_run (u : RampId) (s : State) : (rampStep u s).run = s.run := rfl
@[simp] theorem rampStep_bound (u : RampId) (s : State) : (rampStep u s).bound = s.bound := rfl
@[simp] theorem rampStep_mode (u : RampId) (s : State) : (rampStep u s).mode = s.mode := rfl
@[simp] theorem rampStep_envState (u : RampId) (s : State) : (rampStep u s).envState = s.envState := rfl
@[simp] theorem rampStep_env (u : RampId) (s : State) : (rampStep u s).env = s.env := rfl
@[simp] theorem rampStep_envE0 (u : RampId) (s : State) : (rampStep u s).envE0 = s.envE0 := rfl
@[simp] theorem rampStep_envCnt (u : RampId) (s : State) : (rampStep u s).envCnt = s.envCnt := rfl
@[simp] theorem rampStep_modPos (u : RampId) (s : State) : (rampStep u s).modPos = s.modPos := rfl
@[simp] theorem rampStep_filtPos (u : RampId) (s : State) : (rampStep u s).filtPos = s.filtPos := rfl
@[simp] theorem rampStep_ph (u : RampId) (s : State) : (rampStep u s).ph = s.ph := rfl
@[simp] theorem rampStep_geomR (u : RampId) (s : State) : (rampStep u s).geomR = s.geomR := rfl
@[simp] theorem rampStep_vis (u : RampId) (s : State) : (rampStep u s).vis = s.vis := rfl
@[simp] theorem rampStep_visPend (u : RampId) (s : State) : (rampStep u s).visPend = s.visPend := rfl
@[simp] theorem rampStep_fault (u : RampId) (s : State) : (rampStep u s).fault = s.fault := rfl
@[simp] theorem rampStep_fcode (u : RampId) (s : State) : (rampStep u s).fcode = s.fcode := rfl
@[simp] theorem rampStep_fcmd (u : RampId) (s : State) : (rampStep u s).fcmd = s.fcmd := rfl
@[simp] theorem rampStep_rdata (u : RampId) (s : State) : (rampStep u s).rdata = s.rdata := rfl
@[simp] theorem rampStep_redraw (u : RampId) (s : State) : (rampStep u s).redraw = s.redraw := rfl
@[simp] theorem rampStep_visoff (u : RampId) (s : State) : (rampStep u s).visoff = s.visoff := rfl
@[simp] theorem rampStep_input (u : RampId) (s : State) : (rampStep u s).input = s.input := rfl

/-! ### `envStep` (R183 to R186) -/

@[simp] theorem envStep_cfg (s : State) : (envStep s).cfg = s.cfg := by
  unfold envStep; cases s.envState <;> rfl
@[simp] theorem envStep_voice1 (s : State) :
    (envStep s).voice1 = s.voice1 := by
  unfold envStep; cases s.envState <;> rfl
@[simp] theorem envStep_voice2 (s : State) :
    (envStep s).voice2 = s.voice2 := by
  unfold envStep; cases s.envState <;> rfl
@[simp] theorem envStep_run (s : State) : (envStep s).run = s.run := by
  unfold envStep; cases s.envState <;> rfl
@[simp] theorem envStep_bound (s : State) :
    (envStep s).bound = s.bound := by
  unfold envStep; cases s.envState <;> rfl
@[simp] theorem envStep_mode (s : State) : (envStep s).mode = s.mode := by
  unfold envStep; cases s.envState <;> rfl
@[simp] theorem envStep_envE0 (s : State) :
    (envStep s).envE0 = s.envE0 := by
  unfold envStep; cases s.envState <;> rfl
@[simp] theorem envStep_modPos (s : State) :
    (envStep s).modPos = s.modPos := by
  unfold envStep; cases s.envState <;> rfl
@[simp] theorem envStep_filtPos (s : State) :
    (envStep s).filtPos = s.filtPos := by
  unfold envStep; cases s.envState <;> rfl
@[simp] theorem envStep_modUnit (s : State) :
    (envStep s).modUnit = s.modUnit := by
  unfold envStep; cases s.envState <;> rfl
@[simp] theorem envStep_cutUnit (s : State) :
    (envStep s).cutUnit = s.cutUnit := by
  unfold envStep; cases s.envState <;> rfl
@[simp] theorem envStep_ph (s : State) : (envStep s).ph = s.ph := by
  unfold envStep; cases s.envState <;> rfl
@[simp] theorem envStep_geomR (s : State) :
    (envStep s).geomR = s.geomR := by
  unfold envStep; cases s.envState <;> rfl
@[simp] theorem envStep_vis (s : State) : (envStep s).vis = s.vis := by
  unfold envStep; cases s.envState <;> rfl
@[simp] theorem envStep_visPend (s : State) :
    (envStep s).visPend = s.visPend := by
  unfold envStep; cases s.envState <;> rfl
@[simp] theorem envStep_fault (s : State) :
    (envStep s).fault = s.fault := by
  unfold envStep; cases s.envState <;> rfl
@[simp] theorem envStep_fcode (s : State) :
    (envStep s).fcode = s.fcode := by
  unfold envStep; cases s.envState <;> rfl
@[simp] theorem envStep_fcmd (s : State) : (envStep s).fcmd = s.fcmd := by
  unfold envStep; cases s.envState <;> rfl
@[simp] theorem envStep_rdata (s : State) :
    (envStep s).rdata = s.rdata := by
  unfold envStep; cases s.envState <;> rfl
@[simp] theorem envStep_redraw (s : State) :
    (envStep s).redraw = s.redraw := by
  unfold envStep; cases s.envState <;> rfl
@[simp] theorem envStep_visoff (s : State) :
    (envStep s).visoff = s.visoff := by
  unfold envStep; cases s.envState <;> rfl
@[simp] theorem envStep_input (s : State) :
    (envStep s).input = s.input := by
  unfold envStep; cases s.envState <;> rfl

/-! ### `visStep` (R187) -/

@[simp] theorem visStep_cfg (s : State) :
    (visStep s).cfg = s.cfg := by
  unfold visStep; split <;> [split <;> rfl; rfl]
@[simp] theorem visStep_voice1 (s : State) :
    (visStep s).voice1 = s.voice1 := by
  unfold visStep; split <;> [split <;> rfl; rfl]
@[simp] theorem visStep_voice2 (s : State) :
    (visStep s).voice2 = s.voice2 := by
  unfold visStep; split <;> [split <;> rfl; rfl]
@[simp] theorem visStep_run (s : State) :
    (visStep s).run = s.run := by
  unfold visStep; split <;> [split <;> rfl; rfl]
@[simp] theorem visStep_bound (s : State) :
    (visStep s).bound = s.bound := by
  unfold visStep; split <;> [split <;> rfl; rfl]
@[simp] theorem visStep_mode (s : State) :
    (visStep s).mode = s.mode := by
  unfold visStep; split <;> [split <;> rfl; rfl]
@[simp] theorem visStep_envState (s : State) :
    (visStep s).envState = s.envState := by
  unfold visStep; split <;> [split <;> rfl; rfl]
@[simp] theorem visStep_env (s : State) :
    (visStep s).env = s.env := by
  unfold visStep; split <;> [split <;> rfl; rfl]
@[simp] theorem visStep_envE0 (s : State) :
    (visStep s).envE0 = s.envE0 := by
  unfold visStep; split <;> [split <;> rfl; rfl]
@[simp] theorem visStep_envCnt (s : State) :
    (visStep s).envCnt = s.envCnt := by
  unfold visStep; split <;> [split <;> rfl; rfl]
@[simp] theorem visStep_modPos (s : State) :
    (visStep s).modPos = s.modPos := by
  unfold visStep; split <;> [split <;> rfl; rfl]
@[simp] theorem visStep_filtPos (s : State) :
    (visStep s).filtPos = s.filtPos := by
  unfold visStep; split <;> [split <;> rfl; rfl]
@[simp] theorem visStep_modUnit (s : State) :
    (visStep s).modUnit = s.modUnit := by
  unfold visStep; split <;> [split <;> rfl; rfl]
@[simp] theorem visStep_cutUnit (s : State) :
    (visStep s).cutUnit = s.cutUnit := by
  unfold visStep; split <;> [split <;> rfl; rfl]
@[simp] theorem visStep_ph (s : State) : (visStep s).ph = s.ph := by
  unfold visStep; split <;> [split <;> rfl; rfl]
@[simp] theorem visStep_geomR (s : State) :
    (visStep s).geomR = s.geomR := by
  unfold visStep; split <;> [split <;> rfl; rfl]
@[simp] theorem visStep_fault (s : State) :
    (visStep s).fault = s.fault := by
  unfold visStep; split <;> [split <;> rfl; rfl]
@[simp] theorem visStep_fcode (s : State) :
    (visStep s).fcode = s.fcode := by
  unfold visStep; split <;> [split <;> rfl; rfl]
@[simp] theorem visStep_fcmd (s : State) :
    (visStep s).fcmd = s.fcmd := by
  unfold visStep; split <;> [split <;> rfl; rfl]
@[simp] theorem visStep_rdata (s : State) :
    (visStep s).rdata = s.rdata := by
  unfold visStep; split <;> [split <;> rfl; rfl]
@[simp] theorem visStep_redraw (s : State) :
    (visStep s).redraw = s.redraw := by
  unfold visStep; split <;> [split <;> rfl; rfl]
@[simp] theorem visStep_input (s : State) :
    (visStep s).input = s.input := by
  unfold visStep; split <;> [split <;> rfl; rfl]

/-! ### `tickEvent` (R180): the registers no tick writes -/

@[simp] theorem tickEvent_cfg (s : State) : (tickEvent s).cfg = s.cfg := by simp [tickEvent]
@[simp] theorem tickEvent_voice1 (s : State) : (tickEvent s).voice1 = s.voice1 := by simp [tickEvent]
@[simp] theorem tickEvent_voice2 (s : State) : (tickEvent s).voice2 = s.voice2 := by simp [tickEvent]
@[simp] theorem tickEvent_run (s : State) : (tickEvent s).run = s.run := by simp [tickEvent]
@[simp] theorem tickEvent_bound (s : State) : (tickEvent s).bound = s.bound := by simp [tickEvent]
@[simp] theorem tickEvent_mode (s : State) : (tickEvent s).mode = s.mode := by simp [tickEvent]
@[simp] theorem tickEvent_envE0 (s : State) : (tickEvent s).envE0 = s.envE0 := by simp [tickEvent]
@[simp] theorem tickEvent_modPos (s : State) : (tickEvent s).modPos = s.modPos := by simp [tickEvent]
@[simp] theorem tickEvent_filtPos (s : State) : (tickEvent s).filtPos = s.filtPos := by simp [tickEvent]
@[simp] theorem tickEvent_geomR (s : State) : (tickEvent s).geomR = s.geomR := by simp [tickEvent]
@[simp] theorem tickEvent_fault (s : State) : (tickEvent s).fault = s.fault := by simp [tickEvent]
@[simp] theorem tickEvent_fcode (s : State) : (tickEvent s).fcode = s.fcode := by simp [tickEvent]
@[simp] theorem tickEvent_fcmd (s : State) : (tickEvent s).fcmd = s.fcmd := by simp [tickEvent]
@[simp] theorem tickEvent_rdata (s : State) : (tickEvent s).rdata = s.rdata := by simp [tickEvent]
@[simp] theorem tickEvent_redraw (s : State) : (tickEvent s).redraw = s.redraw := by simp [tickEvent]
@[simp] theorem tickEvent_input (s : State) : (tickEvent s).input = s.input := by simp [tickEvent]

/-- The values a tick gives its units: each step reads only what the earlier ones have written (R180). -/
@[simp] theorem tickEvent_modUnit (s : State) :
    (tickEvent s).modUnit = advanceRamp s.cfg.ramp s.modUnit := by simp [tickEvent]; rfl
@[simp] theorem tickEvent_cutUnit (s : State) :
    (tickEvent s).cutUnit = advanceRamp s.cfg.ramp s.cutUnit := by simp [tickEvent]; rfl
@[simp] theorem tickEvent_ph (s : State) :
    (tickEvent s).ph = if s.run then
      s.ph + BitVec.ofNat 32 (lfoIncrement s.cfg (advanceRamp s.cfg.ramp s.modUnit).cur) else s.ph := by
  simp [tickEvent]; rfl

end Sys2Proof.Machine
end

