-- ==== Sys2Proof/Laws/Ops.lean ====
section
/-! SUPPORT. For each shared operation what it does, said once: later proofs cite these and do not unfold it. -/

namespace Sys2Proof.Machine

/-! ### Voices and ramp units -/

@[simp] theorem pickVoice_one {α : Type} (a b : α) : pickVoice .one a b = a := rfl
@[simp] theorem pickVoice_two {α : Type} (a b : α) : pickVoice .two a b = b := rfl
@[simp] theorem pickRamp_modRate {α : Type} (a b : α) : pickRamp .modRate a b = a := rfl
@[simp] theorem pickRamp_cutoff {α : Type} (a b : α) : pickRamp .cutoff a b = b := rfl
@[simp] theorem voice_one (s : State) : s.voice .one = s.voice1 := rfl
@[simp] theorem voice_two (s : State) : s.voice .two = s.voice2 := rfl
@[simp] theorem rampUnit_modRate (s : State) : s.rampUnit .modRate = s.modUnit := rfl
@[simp] theorem rampUnit_cutoff (s : State) : s.rampUnit .cutoff = s.cutUnit := rfl
@[simp] theorem cfgVoice_one (c : Config) : c.voice .one = c.voice1 := rfl
@[simp] theorem cfgVoice_two (c : Config) : c.voice .two = c.voice2 := rfl

theorem voice_setVoice_same (s : State) (v : Voice) (x : VoiceState) : (s.setVoice v x).voice v = x := by
  cases v <;> rfl

theorem voice_setVoice_other (s : State) {v w : Voice} (x : VoiceState) (h : w ≠ v) :
    (s.setVoice v x).voice w = s.voice w := by
  cases v <;> cases w <;> first | rfl | exact absurd rfl h

theorem rampUnit_setRampUnit_same (s : State) (u : RampId) (x : RampUnit) :
    (s.setRampUnit u x).rampUnit u = x := by
  cases u <;> rfl

theorem rampUnit_setRampUnit_other (s : State) {u v : RampId} (x : RampUnit) (h : v ≠ u) :
    (s.setRampUnit u x).rampUnit v = s.rampUnit v := by
  cases u <;> cases v <;> first | rfl | exact absurd rfl h

/-! ### Faults -/

/-- The first fault is recorded (R272). -/
theorem raiseFault_of_clear {s : State} (h : s.fault = false) (c : FaultCode) (w : Word) :
    raiseFault c w s = { s with fault := true, fcode := faultNumber c, fcmd := w } := by
  simp [raiseFault, h]

/-- A later fault changes nothing (R272, R279). -/
theorem raiseFault_of_set {s : State} (h : s.fault = true) (c : FaultCode) (w : Word) :
    raiseFault c w s = s := by
  cases s; simp_all [raiseFault]

theorem faultNumber_range (c : FaultCode) : 1 ≤ (faultNumber c).toNat ∧ (faultNumber c).toNat ≤ 7 := by
  cases c <;> decide

/-! ### Envelope edges and knobs -/

/-- What `do_release` does to the state of the envelope (R143). -/
theorem doRelease_envState (s : State) :
    (doRelease s).envState =
      if s.envState = .attacking ∨ s.envState = .holding then .releasing else s.envState := by
  unfold doRelease
  cases h : s.envState <;> simp

/-- `do_hit` as one update (R142). -/
theorem doHit_eq (note : Int) (s : State) :
    doHit note s =
      { s with
        voice1 := { s.voice1 with
          note := BitVec.ofInt 8 note, freq := pitch s.cfg.voice1 note s.voice1.oidx.toNat }
        voice2 := { s.voice2 with
          note := BitVec.ofInt 8 note, freq := pitch s.cfg.voice2 note s.voice2.oidx.toNat }
        envE0 := s.env
        envCnt := 0
        env := if s.cfg.attack = 0 then BitVec.ofNat 25 gainOne else s.env
        envState :=
          if s.cfg.attack = 0 then (if 0 < s.cfg.hold then .holding else .releasing)
          else .attacking } := rfl

/-- `do_setmod` as one update (R144, R146). -/
theorem doSetMod_eq (pos : Nat) (s : State) :
    doSetMod pos s =
      { s with
        modPos := BitVec.ofNat 4 pos
        modUnit := requestRamp s.cfg.ramp (modTarget s.cfg pos) s.modUnit } := rfl

/-- `do_setfilt` as one update (R145, R146). -/
theorem doSetFilt_eq (pos : Nat) (s : State) :
    doSetFilt pos s =
      { s with
        filtPos := BitVec.ofNat 4 pos
        cutUnit := requestRamp s.cfg.ramp (filtTarget s.cfg pos) s.cutUnit } := rfl

/-- `do_setopt` is one of four selections (R147). -/
theorem doSetOpt_cases (opt : Nat) (s : State) :
    (∃ v j, doSetOpt opt s = voiceSetWave v j s) ∨ (∃ v j, doSetOpt opt s = voiceSetOct v j s) := by
  unfold doSetOpt selectBand
  split <;> split <;> first
    | exact Or.inl ⟨_, _, rfl⟩
    | exact Or.inr ⟨_, _, rfl⟩

/-! ### Dispatch -/

/-- The toggle does not look at the mode (R228). -/
theorem dispatch_toggle (w : Word) (a : Int) (s : State) : dispatch w .toggle a s = toggleMode s := by
  unfold dispatch; cases s.mode <;> rfl

/-- In EDIT mode every other zone feeds the option selector (R228). -/
theorem dispatch_edit {s : State} (hm : s.mode = .edit) {z : Zone} (hz : z ≠ .toggle) (w : Word) (a : Int) :
    dispatch w z a s = doSetOpt (knobOf a).toNat s := by
  unfold dispatch; cases z <;> simp_all

/-- In PLAY mode zone OSC plays the sector's note (R228, R229). -/
theorem dispatch_play_osc {s : State} (hm : s.mode = .play) (w : Word) (a : Int) :
    dispatch w .osc a s =
      if s.run then armVisOff (doHit (noteOf a) s) else raiseFault .notStarted w s := by
  unfold dispatch; simp [hm]

/-- In PLAY mode zone MODSPEED turns the modulation-rate knob (R228). -/
theorem dispatch_play_modSpeed {s : State} (hm : s.mode = .play) (w : Word) (a : Int) :
    dispatch w .modSpeed a s = doSetMod (noteOf a).toNat s := by
  unfold dispatch; simp [hm]

/-- In PLAY mode zone FILTFREQ turns the cutoff knob (R228). -/
theorem dispatch_play_filtFreq {s : State} (hm : s.mode = .play) (w : Word) (a : Int) :
    dispatch w .filtFreq a s = doSetFilt (noteOf a).toNat s := by
  unfold dispatch; simp [hm]

/-- Everything a press can do. -/
theorem dispatch_cases (w : Word) (z : Zone) (a : Int) (s : State) :
    dispatch w z a s = toggleMode s ∨
    dispatch w z a s = doSetOpt (knobOf a).toNat s ∨
    (s.run = true ∧ dispatch w z a s = armVisOff (doHit (noteOf a) s)) ∨
    (s.run = false ∧ dispatch w z a s = raiseFault .notStarted w s) ∨
    dispatch w z a s = doSetMod (noteOf a).toNat s ∨
    dispatch w z a s = doSetFilt (noteOf a).toNat s := by
  unfold dispatch
  cases z <;> cases s.mode <;> cases s.run <;> simp

/-! ### The tick -/

/-- The envelope step by the state before it (R183 to R186). -/
theorem envStep_cases (s : State) :
    (s.envState = .idle ∧ envStep s = s) ∨
    (s.envState = .attacking ∧ envStep s = envAttackStep s) ∨
    (s.envState = .holding ∧ envStep s = envHoldStep s) ∨
    (s.envState = .releasing ∧ envStep s = envReleaseStep s) := by
  unfold envStep
  cases h : s.envState <;> simp

/-- The visual-off timer step (R187). -/
theorem visStep_cases (s : State) :
    (s.visPend = false ∧ visStep s = s) ∨
    (s.visPend = true ∧ s.vis.toNat ≤ 1 ∧
      visStep s = { s with vis := 0, visPend := false, visoff := true }) ∨
    (s.visPend = true ∧ 1 < s.vis.toNat ∧ visStep s = { s with vis := s.vis - 1 }) := by
  unfold visStep
  cases h : s.visPend
  · simp
  · by_cases h1 : s.vis.toNat ≤ 1
    · simp [h1]
    · simp [h1]; omega

/-- The envelope of a tick: the envelope step, which reads nothing the ramps and the LFO write (R180). -/
theorem tickEvent_envelope (s : State) :
    (tickEvent s).envState = (envStep s).envState ∧ (tickEvent s).env = (envStep s).env ∧
    (tickEvent s).envCnt = (envStep s).envCnt := by
  simp only [tickEvent, visStep_envState, visStep_env, visStep_envCnt]
  cases h : s.envState <;> simp only [envStep, lfoStep_envState, rampStep_envState, h] <;>
    first | exact ⟨rfl, rfl, rfl⟩ | simp

/-- The visual-off timer of a tick (R180, R187). -/
theorem tickEvent_timer (s : State) :
    (tickEvent s).vis = (visStep s).vis ∧ (tickEvent s).visPend = (visStep s).visPend ∧
    (tickEvent s).visoff = (visStep s).visoff := by
  cases h : s.visPend <;> by_cases h1 : s.vis.toNat ≤ 1 <;> simp [tickEvent, visStep, h, h1]

/-! ### The step -/

/-- A step with an event at the front of the trace executes that event. -/
theorem step_cons {s : State} {e : Event} {rest : List Event} (h : s.input = e :: rest) :
    step s = runEvent e (s.beginEvent rest) := by
  simp [step, State.fetch, h]

/-- A step with no event presented. -/
theorem step_nil {s : State} (h : s.input = []) : step s = .next (s.beginEvent []) := by
  simp [step, State.fetch, h, idleStep]

/-- What a command word does, by what the decoder says of it (R83). -/
theorem runCommand_ok {w : Word} {i : Instr} (h : decodeWord w = .ok i) (s : State) :
    runCommand w s = exec i s := by
  simp [runCommand, h]

theorem runCommand_illegalOp {w : Word} (h : decodeWord w = .error .illegalOp) (s : State) :
    runCommand w s = .next (raiseFault .illegalOp w s) := by
  simp [runCommand, h]

theorem runCommand_reserved {w : Word} (h : decodeWord w = .error .reserved) (s : State) :
    runCommand w s = .next (raiseFault .reserved w s) := by
  simp [runCommand, h]

end Sys2Proof.Machine
end

