-- ==== Sys2Proof/Laws/Exec.lean ====
section
/-! SUPPORT. What executing a command can do, said once for all commands. -/

namespace Sys2Proof.Machine

/-- Every command completes (20_memory.md R60). -/
theorem exec_total (i : Instr) (s : State) : ∃ t, exec i s = .next t := by
  cases i <;> exact ⟨_, rfl⟩

/-- Every event completes (20_memory.md R60). -/
theorem runEvent_total (e : Event) (s : State) : ∃ t, runEvent e s = .next t := by
  cases e with
  | tick => exact ⟨_, rfl⟩
  | reset => exact ⟨_, rfl⟩
  | cmd w =>
    simp only [runEvent, runCommand]
    split
    · exact exec_total _ _
    · exact ⟨_, rfl⟩
    · exact ⟨_, rfl⟩

/-- Every step completes (20_memory.md R60; log 13). -/
theorem step_total (s : State) : ∃ t, step s = .next t := by
  cases h : s.input with
  | nil => exact ⟨_, step_nil h⟩
  | cons e rest => rw [step_cons h]; exact runEvent_total e _

/-- A command that is not refused (60_exceptions.md R286): the fault record, the configuration and the trace stay,
`RUN` and `BOUND` are not cleared, and the mode changes only with a pulse on `redraw_o` and nothing else. -/
structure Accepted (s t : State) : Prop where
  fault : t.fault = s.fault
  fcode : t.fcode = s.fcode
  fcmd : t.fcmd = s.fcmd
  cfg : t.cfg = s.cfg
  input : t.input = s.input
  visoff : t.visoff = s.visoff
  run : s.run = true → t.run = true
  bound : s.bound = true → t.bound = true
  mode : (t.mode = s.mode ∧ t.redraw = s.redraw) ∨ t = toggleMode s

theorem accepted_setWave (v : Voice) (j : Nat) (s : State) : Accepted s (voiceSetWave v j s) :=
  ⟨rfl, rfl, rfl, rfl, rfl, rfl, id, id, .inl ⟨rfl, rfl⟩⟩

theorem accepted_setOct (v : Voice) (j : Nat) (s : State) : Accepted s (voiceSetOct v j s) :=
  ⟨rfl, rfl, rfl, rfl, rfl, rfl, id, id, .inl ⟨rfl, rfl⟩⟩

theorem accepted_setOpt (opt : Nat) (s : State) : Accepted s (doSetOpt opt s) := by
  rcases doSetOpt_cases opt s with ⟨v, j, h⟩ | ⟨v, j, h⟩ <;> rw [h]
  · exact accepted_setWave v j s
  · exact accepted_setOct v j s

theorem accepted_toggle (s : State) : Accepted s (toggleMode s) :=
  ⟨rfl, rfl, rfl, rfl, rfl, rfl, id, id, .inr rfl⟩

/-- A press is accepted, or it is a hit before `START` and faults (43_decoder.md R228). -/
theorem dispatch_outcome (w : Word) (z : Zone) (a : Int) (s : State) :
    Accepted s (dispatch w z a s) ∨ dispatch w z a s = raiseFault .notStarted w s := by
  rcases dispatch_cases w z a s with h | h | ⟨_, h⟩ | ⟨_, h⟩ | h | h <;> rw [h]
  · exact .inl (accepted_toggle s)
  · exact .inl (accepted_setOpt _ s)
  · exact .inl ⟨rfl, rfl, rfl, rfl, rfl, rfl, id, id, .inl ⟨rfl, rfl⟩⟩
  · exact .inr rfl
  · exact .inl ⟨rfl, rfl, rfl, rfl, rfl, rfl, id, id, .inl ⟨rfl, rfl⟩⟩
  · exact .inl ⟨rfl, rfl, rfl, rfl, rfl, rfl, id, id, .inl ⟨rfl, rfl⟩⟩

/-- The faults R286 marks for a command. -/
def faultsOf : Instr → List FaultCode
  | .start => [.doubleStart]
  | .bind => [.doubleBind]
  | .rdreg _ => [.badReg]
  | .hit _ => [.notStarted]
  | .release => [.notStarted]
  | .ptr _ _ => [.notStarted, .notBound]
  | .ang _ _ => [.notStarted, .notBound]
  | .tilt _ _ => [.notBound]
  | .pup => [.notStarted, .notBound]
  | .nop | .setmod _ | .setfilt _ | .setopt _ | .setwave _ _ | .setoct _ _ | .setnote _ _ | .geom _ => []

/-- A command is accepted, or raises one of its faults with its own word (R286). The read data a refused `RDREG`
sets to 0 is the value an event starts with. -/
theorem exec_outcome (i : Instr) {s : State} (h : s.rdata = 0) :
    (∃ t, exec i s = .next t ∧ Accepted s t) ∨
    ∃ c ∈ faultsOf i, exec i s = .next (raiseFault c (encode i) s) := by
  cases i with
  | nop => exact .inl ⟨_, rfl, rfl, rfl, rfl, rfl, rfl, rfl, id, id, .inl ⟨rfl, rfl⟩⟩
  | start =>
    cases hr : s.run
    · exact .inl ⟨{ s with run := true }, by simp [exec, execStart, hr],
        rfl, rfl, rfl, rfl, rfl, rfl, fun _ => rfl, id, .inl ⟨rfl, rfl⟩⟩
    · exact .inr ⟨_, List.mem_singleton.mpr rfl, by simp [exec, execStart, hr]⟩
  | bind =>
    cases hb : s.bound
    · exact .inl ⟨{ s with bound := true }, by simp [exec, execBind, hb],
        rfl, rfl, rfl, rfl, rfl, rfl, id, fun _ => rfl, .inl ⟨rfl, rfl⟩⟩
    · exact .inr ⟨_, List.mem_singleton.mpr rfl, by simp [exec, execBind, hb]⟩
  | rdreg addr =>
    cases hv : regRead s addr
    · refine .inr ⟨_, List.mem_singleton.mpr rfl, ?_⟩
      have hs : { s with rdata := 0 } = s := by cases s; cases h; rfl
      simp only [exec, execRdreg, hv, hs]
    · exact .inl ⟨_, rfl, by simp only [hv]; exact ⟨rfl, rfl, rfl, rfl, rfl, rfl, id, id, .inl ⟨rfl, rfl⟩⟩⟩
  | hit note =>
    cases hr : s.run
    · exact .inr ⟨_, List.mem_singleton.mpr rfl, by simp [exec, execHit, hr]⟩
    · exact .inl ⟨doHit note s, by simp [exec, execHit, hr],
        rfl, rfl, rfl, rfl, rfl, rfl, id, id, .inl ⟨rfl, rfl⟩⟩
  | release =>
    cases hr : s.run
    · exact .inr ⟨_, List.mem_singleton.mpr rfl, by simp [exec, execRelease, hr]⟩
    · exact .inl ⟨doRelease s, by simp [exec, execRelease, hr],
        rfl, rfl, rfl, rfl, rfl, rfl, id, id, .inl ⟨rfl, rfl⟩⟩
  | setmod pos => exact .inl ⟨_, rfl, rfl, rfl, rfl, rfl, rfl, rfl, id, id, .inl ⟨rfl, rfl⟩⟩
  | setfilt pos => exact .inl ⟨_, rfl, rfl, rfl, rfl, rfl, rfl, rfl, id, id, .inl ⟨rfl, rfl⟩⟩
  | setopt opt => exact .inl ⟨_, rfl, accepted_setOpt opt s⟩
  | setwave v idx => exact .inl ⟨_, rfl, accepted_setWave v idx s⟩
  | setoct v idx => exact .inl ⟨_, rfl, accepted_setOct v idx s⟩
  | setnote v note => exact .inl ⟨_, rfl, rfl, rfl, rfl, rfl, rfl, rfl, id, id, .inl ⟨rfl, rfl⟩⟩
  | geom radius => exact .inl ⟨_, rfl, rfl, rfl, rfl, rfl, rfl, rfl, id, id, .inl ⟨rfl, rfl⟩⟩
  | ptr angle dist =>
    cases hb : s.bound
    · exact .inr ⟨.notBound, by simp [faultsOf], by simp [exec, execPtr, hb]⟩
    · simp only [exec, execPtr, hb, if_true]
      rcases dispatch_outcome (encode (.ptr angle dist)) (zoneOf dist s.geomR.toNat) angle s with ha | hf
      · exact .inl ⟨_, rfl, ha⟩
      · exact .inr ⟨.notStarted, by simp [faultsOf], by rw [hf]⟩
  | ang zone angle =>
    cases hb : s.bound
    · exact .inr ⟨.notBound, by simp [faultsOf], by simp [exec, execAng, hb]⟩
    · simp only [exec, execAng, hb, if_true]
      rcases dispatch_outcome (encode (.ang zone angle)) zone angle s with ha | hf
      · exact .inl ⟨_, rfl, ha⟩
      · exact .inr ⟨.notStarted, by simp [faultsOf], by rw [hf]⟩
  | tilt fwd side =>
    cases hb : s.bound
    · exact .inr ⟨.notBound, by simp [faultsOf], by simp [exec, execTilt, hb]⟩
    · refine .inl ⟨_, rfl, ?_⟩
      simp only [hb, if_true]
      cases s.mode <;> exact ⟨rfl, rfl, rfl, rfl, rfl, rfl, id, id, .inl ⟨rfl, rfl⟩⟩
  | pup =>
    cases hb : s.bound
    · exact .inr ⟨.notBound, by simp [faultsOf], by simp [exec, execPup, hb]⟩
    · cases hm : s.mode
      · cases hr : s.run
        · exact .inr ⟨.notStarted, by simp [faultsOf], by simp [exec, execPup, hb, hm, hr]⟩
        · exact .inl ⟨doRelease s, by simp [exec, execPup, hb, hm, hr],
            rfl, rfl, rfl, rfl, rfl, rfl, id, id, .inl ⟨rfl, rfl⟩⟩
      · exact .inl ⟨s, by simp [exec, execPup, hb, hm],
          rfl, rfl, rfl, rfl, rfl, rfl, id, id, .inl ⟨rfl, rfl⟩⟩

end Sys2Proof.Machine
end

