-- ==== Sys2Proof/Laws/Numbers.lean ====
section
/-! SUPPORT. What the arithmetic helpers give: clamping, the linear ramp, the narrowing of a value that fits
(00_scope.md R7 to R9, 41_engine.md R158). -/

namespace Sys2Proof.Machine

theorem clamp_lower {x lo hi : Int} (h : lo ≤ hi) : lo ≤ clamp x lo hi := by
  unfold clamp; split <;> [exact le_refl _; split <;> omega]

theorem clamp_upper {x lo hi : Int} (h : lo ≤ hi) : clamp x lo hi ≤ hi := by
  unfold clamp; split <;> [exact h; split <;> omega]

theorem clamp_of_mem {x lo hi : Int} (h₁ : lo ≤ x) (h₂ : x ≤ hi) : clamp x lo hi = x := by
  unfold clamp; rw [if_neg (by omega), if_neg (by omega)]

theorem clamp_of_lt {x lo hi : Int} (h : x < lo) : clamp x lo hi = lo := by
  unfold clamp; rw [if_pos h]

theorem clamp_of_gt {x lo hi : Int} (h₁ : lo ≤ hi) (h : hi < x) : clamp x lo hi = hi := by
  unfold clamp; rw [if_neg (by omega), if_pos h]

/-- An integer that fits `w` bits keeps its value when it is written to a `w`-bit register. -/
theorem ofInt_toNat_of_fits (w : Nat) {x : Int} (h₀ : 0 ≤ x) (h : x < 2 ^ w) :
    ((BitVec.ofInt w x).toNat : Int) = x := by
  obtain ⟨n, rfl⟩ := Int.eq_ofNat_of_zero_le h₀
  have hn : n < 2 ^ w := by exact_mod_cast h
  rw [BitVec.ofInt_natCast, BitVec.toNat_ofNat, Nat.mod_eq_of_lt hn]

/-- What `clamp32` writes (R8). -/
theorem clamp32_toNat (x : Int) : ((clamp32 x).toNat : Int) = clamp x 0 (2 ^ 32 - 1) := by
  have h₀ : 0 ≤ clamp x 0 (2 ^ 32 - 1) := clamp_lower (by norm_num)
  have h₁ : clamp x 0 (2 ^ 32 - 1) ≤ 2 ^ 32 - 1 := clamp_upper (by norm_num)
  exact ofInt_toNat_of_fits 32 h₀ (by omega)

/-- A ramp starts at its start. -/
theorem linearRamp_zero (a b : Int) (n : Nat) : linearRamp a b 0 n = a := by simp [linearRamp]

/-- "At `U.RC = RAMP` the quotient is exact" (R181). -/
theorem linearRamp_end (a b : Int) {n : Nat} (h : 0 < n) : linearRamp a b n n = b := by
  unfold linearRamp
  rw [Int.mul_ediv_cancel _ (by exact_mod_cast h.ne')]
  omega

/-- A ramp never leaves the interval between its ends (R158). -/
theorem linearRamp_between (a b : Int) {k n : Nat} (hn : 0 < n) (hk : k ≤ n) :
    min a b ≤ linearRamp a b k n ∧ linearRamp a b k n ≤ max a b := by
  unfold linearRamp
  have hn' : (0 : Int) < n := by exact_mod_cast hn
  have hk' : (k : Int) ≤ n := by exact_mod_cast hk
  have hk0 : (0 : Int) ≤ k := by positivity
  rcases le_total a b with hab | hab
  · have h₁ : 0 ≤ (b - a) * k / n := Int.ediv_nonneg (mul_nonneg (by omega) hk0) hn'.le
    have h₂ : (b - a) * k / n ≤ b - a := by
      apply Int.ediv_le_of_le_mul hn'; nlinarith
    omega
  · have h₁ : (b - a) * k / n ≤ 0 := Int.ediv_le_of_le_mul hn' (by nlinarith)
    have h₂ : b - a ≤ (b - a) * k / n := by
      apply Int.le_ediv_of_mul_le hn'; nlinarith
    omega

/-- A rising ramp does not fall from one tick to the next. -/
theorem linearRamp_mono {a b : Int} (hab : a ≤ b) {k m n : Nat} (hn : 0 < n) (hk : k ≤ m) :
    linearRamp a b k n ≤ linearRamp a b m n := by
  unfold linearRamp
  have hn' : (0 : Int) < n := by exact_mod_cast hn
  have hk' : (k : Int) ≤ m := by exact_mod_cast hk
  have := Int.ediv_le_ediv hn' (mul_le_mul_of_nonneg_left hk' (sub_nonneg.mpr hab))
  omega

end Sys2Proof.Machine
end

