-- ==== Sys2Proof/Laws/PerInstr.lean ====
section
/-! SUPPORT. Statements made of every instruction, one lemma per constructor. `EncodingRow`: the word of an
instruction, whatever its operands, has the fixed bits of its row of spec/opcode_table.json (30_encoding.md R84). -/

namespace Sys2Proof.Laws.EncodingRow

/-- `mask` of the row of an opcode, as spec/opcode_table.json lists it. -/
def rowMask : Opcode → Word
  | .nop | .start | .bind | .release | .pup => 0xFFFFFFFF
  | .rdreg | .hit => 0xFFFFFF00
  | .setmod | .setfilt | .setopt => 0xFFFFFFF0
  | .setwave | .setoct | .setnote => 0xFFFFFE00
  | .geom => 0xFFFFF000
  | .ptr | .tilt => 0xFF000000
  | .ang => 0xFFFFC000

/-- `match` of the row of an opcode. -/
def rowMatch : Opcode → Word
  | .nop => 0x00000000
  | .start => 0x01000000
  | .bind => 0x02000000
  | .rdreg => 0x03000000
  | .hit => 0x10000000
  | .release => 0x11000000
  | .setmod => 0x12000000
  | .setfilt => 0x13000000
  | .setopt => 0x14000000
  | .setwave => 0x20000000
  | .setoct => 0x21000000
  | .setnote => 0x22000000
  | .geom => 0x30000000
  | .ptr => 0x31000000
  | .ang => 0x32000000
  | .tilt => 0x33000000
  | .pup => 0x34000000

/-- The bits of the row's mask read as the row's match. -/
def Statement (i : Instr) : Prop := encode i &&& rowMask i.opcode = rowMatch i.opcode

theorem rowMatch_eq (op : Opcode) : rowMatch op = (opcodeByte op ++ 0#24 : BitVec 32) := by cases op <;> decide

theorem opcodeByte_and_ones (op : Opcode) : opcodeByte op &&& 0xFF#8 = opcodeByte op := by cases op <;> decide

/-- A word whose payload keeps the mask's reserved bits 0 has its row's fixed bits. -/
theorem of_payload {i : Instr} (op : Opcode) (m : BitVec 24) (ho : i.opcode = op)
    (hm : rowMask op = (0xFF#8 ++ m : BitVec 32)) (hp : i.payload &&& m = 0#24) : Statement i := by
  unfold Statement encode
  rw [ho, hm, rowMatch_eq, BitVec.and_append, hp, opcodeByte_and_ones]

theorem high_zero {w n : Nat} (x : BitVec n) : ((0#w ++ x : BitVec (w + n)) &&& (BitVec.allOnes w ++ 0#n)) = 0#(w + n) := by
  rw [BitVec.and_append]; simp

theorem high_zero_two {w n k : Nat} (x : BitVec n) (y : BitVec k) :
    ((0#w ++ x ++ y : BitVec (w + n + k)) &&& (BitVec.allOnes w ++ 0#n ++ 0#k)) = 0#(w + n + k) := by
  rw [BitVec.and_append, BitVec.and_append]; simp

theorem nop : Statement .nop := by unfold Statement; decide
theorem start : Statement .start := by unfold Statement; decide
theorem bind : Statement .bind := by unfold Statement; decide
theorem rdreg (addr : Nat) : Statement (.rdreg addr) :=
  of_payload .rdreg 0xFFFF00 rfl (by decide) (high_zero (w := 16) (BitVec.ofNat 8 addr))
theorem hit (note : Int) : Statement (.hit note) :=
  of_payload .hit 0xFFFF00 rfl (by decide) (high_zero (w := 16) (BitVec.ofInt 8 note))
theorem release : Statement .release := by unfold Statement; decide
theorem setmod (pos : Nat) : Statement (.setmod pos) :=
  of_payload .setmod 0xFFFFF0 rfl (by decide) (high_zero (w := 20) (BitVec.ofNat 4 pos))
theorem setfilt (pos : Nat) : Statement (.setfilt pos) :=
  of_payload .setfilt 0xFFFFF0 rfl (by decide) (high_zero (w := 20) (BitVec.ofNat 4 pos))
theorem setopt (opt : Nat) : Statement (.setopt opt) :=
  of_payload .setopt 0xFFFFF0 rfl (by decide) (high_zero (w := 20) (BitVec.ofNat 4 opt))
theorem setwave (v : Voice) (idx : Nat) : Statement (.setwave v idx) :=
  of_payload .setwave 0xFFFE00 rfl (by decide) (high_zero_two (w := 15) (voiceBit v) (BitVec.ofNat 8 idx))
theorem setoct (v : Voice) (idx : Nat) : Statement (.setoct v idx) :=
  of_payload .setoct 0xFFFE00 rfl (by decide) (high_zero_two (w := 15) (voiceBit v) (BitVec.ofNat 8 idx))
theorem setnote (v : Voice) (note : Int) : Statement (.setnote v note) :=
  of_payload .setnote 0xFFFE00 rfl (by decide) (high_zero_two (w := 15) (voiceBit v) (BitVec.ofInt 8 note))
theorem geom (radius : Nat) : Statement (.geom radius) :=
  of_payload .geom 0xFFF000 rfl (by decide) (high_zero (w := 12) (BitVec.ofNat 12 radius))
theorem ptr (angle : Int) (dist : Nat) : Statement (.ptr angle dist) :=
  of_payload .ptr 0x000000 rfl (by decide) BitVec.and_zero
theorem ang (zone : Zone) (angle : Int) : Statement (.ang zone angle) :=
  of_payload .ang 0xFFC000 rfl (by decide) (high_zero_two (w := 10) (zoneCode zone) (BitVec.ofInt 12 angle))
theorem tilt (fwd side : Int) : Statement (.tilt fwd side) :=
  of_payload .tilt 0x000000 rfl (by decide) BitVec.and_zero
theorem pup : Statement .pup := by unfold Statement; decide

end Sys2Proof.Laws.EncodingRow
end

