-- ==== Sys2Proof/Laws/Run.lean ====
section
/-! SUPPORT. Runs of many steps: how they compose, and a run over ticks alone as an induction over the ticks. -/

namespace Sys2Proof.Machine

theorem runSteps_succ {s t : State} (k : Nat) (h : step s = .next t) : runSteps (k + 1) s = runSteps k t := by
  simp [runSteps, h]

theorem runSteps_one {s t : State} (h : step s = .next t) : runSteps 1 s = .next t := by
  simp [runSteps, h]

/-- A run that reaches `t` goes on from `t`. -/
theorem runSteps_add {a : Nat} {s t : State} (b : Nat) (h : runSteps a s = .next t) :
    runSteps (a + b) s = runSteps b t := by
  induction a generalizing s with
  | zero => cases h; rw [Nat.zero_add]
  | succ a ih =>
    rw [Nat.succ_add]
    cases hs : step s with
    | next u => rw [runSteps_succ _ hs] at h ⊢; exact ih h
    | fault r => cases r
    | refused r => simp [runSteps, hs] at h

/-- The host's run of the machine is the same function. -/
theorem core_run_eq_runSteps (k : Nat) (s : State) : Sys2Proof.core.run k s = runSteps k s := by
  induction k generalizing s with
  | zero => rfl
  | succ k ih =>
    cases hs : step s with
    | next t => rw [runSteps_succ _ hs, ← ih t]; simp only [Host.Core.run, Sys2Proof.core, hs]
    | fault r => cases r
    | refused r => simp only [Host.Core.run, runSteps, Sys2Proof.core, hs]

/-- A tick at the front of the trace. -/
theorem step_tick {s : State} {rest : List Event} (h : s.input = .tick :: rest) :
    step s = .next (tickEvent (s.beginEvent rest)) := by
  rw [step_cons h]; rfl

/-- A property of the number of ticks run so far that every tick passes on holds after `k` of them. -/
theorem runSteps_ticks {P : Nat → State → Prop} {n : Nat}
    (tick : ∀ k s rest, k < n → P k s → s.input = .tick :: rest → P (k + 1) (tickEvent (s.beginEvent rest)))
    {s : State} (start : P 0 s) (rest : List Event) {k : Nat} (hk : k ≤ n)
    (h : s.input = List.replicate k .tick ++ rest) :
    ∃ f, runSteps k s = .next f ∧ P k f ∧ f.input = rest := by
  induction k generalizing rest with
  | zero => exact ⟨s, rfl, start, by simpa using h⟩
  | succ k ih =>
    obtain ⟨f, hf, hp, hi⟩ := ih (.tick :: rest) (by omega) (by rw [h, List.replicate_succ']; simp)
    exact ⟨_, (runSteps_add 1 hf).trans (runSteps_one (step_tick hi)), tick k f rest (by omega) hp hi, by simp⟩

end Sys2Proof.Machine
end

