-- ==== Sys2Proof/Machine/Assembler.lean ====
section
/-! DEFINITION. The spec's own notation for event traces (30_encoding.md R100 to R102): the pseudo-instructions
`WAIT`, `.word` and `TOGGLE`, and the assembler syntax, read line by line. It writes traces down; no step uses it. -/

namespace Sys2Proof.Machine

/-- One line of a listing (R101, R102). -/
inductive TraceItem where
  /-- a command -/
  | command (i : Instr)
  /-- `WAIT n`: n TICK events -/
  | wait (n : Nat)
  /-- `.word x`, or a listing line that begins with the word itself -/
  | word (w : Word)
deriving DecidableEq, Repr

/-- `TOGGLE` is a synonym for `ANG 0, 0` (R101). -/
def toggleItem : TraceItem := .command (.ang .toggle 0)

/-- The events a line stands for (R101). -/
def itemEvents : TraceItem → List Event
  | .command i => [.cmd (encode i)]
  | .wait n => List.replicate n .tick
  | .word w => [.cmd w]

/-- The event trace of a listing, read top to bottom (R102). -/
def traceOf (items : List TraceItem) : List Event := items.flatMap itemEvents

/-- An operand as written: a hexadecimal integer, a decimal number `mantissa / 10 ^ scale`, or a name (R100). -/
inductive Token where
  | hex (n : Nat)
  | decimal (mantissa : Int) (scale : Nat)
  | name (cs : List Char)
deriving DecidableEq, Repr

/-- The value of a digit in base 10 or 16. -/
def digitValue (base : Nat) (c : Char) : Option Nat :=
  let n := c.toNat
  let v := if 48 ≤ n ∧ n ≤ 57 then n - 48
    else if 97 ≤ n ∧ n ≤ 102 then n - 87
    else if 65 ≤ n ∧ n ≤ 70 then n - 55
    else 16
  if v < base then some v else none

/-- The value of a digit string read after `acc`. -/
def digitsValue (base acc : Nat) : List Char → Option Nat
  | [] => some acc
  | c :: cs =>
    match digitValue base c with
    | some v => digitsValue base (base * acc + v) cs
    | none => none

/-- The value of a non-empty digit string. -/
def readDigits (base : Nat) : List Char → Option Nat
  | [] => none
  | c :: cs => digitsValue base 0 (c :: cs)

/-- An unsigned decimal number, with a fraction after a point or without (R100). -/
def readDecimal (cs : List Char) : Option (Nat × Nat) :=
  let whole := cs.takeWhile (· ≠ '.')
  match cs.dropWhile (· ≠ '.') with
  | [] => (readDigits 10 whole).map fun n => (n, 0)
  | _ :: frac =>
    match readDigits 10 whole, readDigits 10 frac with
    | some a, some b => some (a * 10 ^ frac.length + b, frac.length)
    | _, _ => none

/-- An operand (R100): "integers are decimal, or hexadecimal with 0x"; what is no number is a name. -/
def readToken (cs : List Char) : Token :=
  match cs with
  | '0' :: 'x' :: ds =>
    match readDigits 16 ds with
    | some n => .hex n
    | none => .name cs
  | '-' :: ds =>
    match readDecimal ds with
    | some (m, k) => .decimal (-(m : Int)) k
    | none => .name cs
  | _ =>
    match readDecimal cs with
    | some (m, k) => .decimal m k
    | none => .name cs

/-- An integer operand. -/
def Token.int : Token → Option Int
  | .hex n => some n
  | .decimal m 0 => some m
  | _ => none

/-- An operand that is not negative. -/
def Token.nat (t : Token) : Option Nat :=
  match t.int with
  | some (.ofNat n) => some n
  | _ => none

/-- An angle in degrees, a multiple of 0.25, as quarter degrees (R100, R10). -/
def Token.angle : Token → Option Int
  | .decimal m k => if 4 * m % 10 ^ k = 0 then some (4 * m / 10 ^ k) else none
  | _ => none

/-- A voice operand, written 1 or 2 (R100). -/
def Token.voice (t : Token) : Option Voice :=
  match t.nat with
  | some 1 => some .one
  | some 2 => some .two
  | _ => none

/-- A zone operand, its number or its name (R100). -/
def Token.zone (t : Token) : Option Zone :=
  match t with
  | .name cs =>
    if cs = "TOGGLE".toList then some .toggle
    else if cs = "OSC".toList then some .osc
    else if cs = "MODSPEED".toList then some .modSpeed
    else if cs = "FILTFREQ".toList then some .filtFreq
    else none
  | t =>
    match t.nat with
    | some 0 => some .toggle
    | some 1 => some .osc
    | some 2 => some .modSpeed
    | some 3 => some .filtFreq
    | _ => none

/-- A command whose operands fit their fields: one that does not fit "is an assembler error, not a wrapped value"
(R100). -/
def checkedCommand (i : Instr) : Option TraceItem := if i.wellFormed then some (.command i) else none

/-- A mnemonic and its operands in the order of the table of R100; `none` is an assembler error. -/
def assembleItem (m : List Char) (ops : List Token) : Option TraceItem :=
  match ops with
  | [] =>
    if m = "NOP".toList then checkedCommand .nop
    else if m = "START".toList then checkedCommand .start
    else if m = "BIND".toList then checkedCommand .bind
    else if m = "RELEASE".toList then checkedCommand .release
    else if m = "PUP".toList then checkedCommand .pup
    else if m = "TOGGLE".toList then some toggleItem
    else
      match readToken m with
      | .hex n => if n < 2 ^ 32 then some (.word (BitVec.ofNat 32 n)) else none
      | _ => none
  | [a] =>
    if m = "RDREG".toList then a.nat.bind fun n => checkedCommand (.rdreg n)
    else if m = "HIT".toList then a.int.bind fun n => checkedCommand (.hit n)
    else if m = "SETMOD".toList then a.nat.bind fun n => checkedCommand (.setmod n)
    else if m = "SETFILT".toList then a.nat.bind fun n => checkedCommand (.setfilt n)
    else if m = "SETOPT".toList then a.nat.bind fun n => checkedCommand (.setopt n)
    else if m = "GEOM".toList then a.nat.bind fun n => checkedCommand (.geom n)
    else if m = "WAIT".toList then a.nat.map .wait
    else if m = ".word".toList then
      a.nat.bind fun n => if n < 2 ^ 32 then some (.word (BitVec.ofNat 32 n)) else none
    else none
  | [a, b] =>
    if m = "SETWAVE".toList then
      a.voice.bind fun v => b.nat.bind fun n => checkedCommand (.setwave v n)
    else if m = "SETOCT".toList then
      a.voice.bind fun v => b.nat.bind fun n => checkedCommand (.setoct v n)
    else if m = "SETNOTE".toList then
      a.voice.bind fun v => b.int.bind fun n => checkedCommand (.setnote v n)
    else if m = "PTR".toList then
      a.angle.bind fun x => b.nat.bind fun d => checkedCommand (.ptr x d)
    else if m = "ANG".toList then
      a.zone.bind fun z => b.angle.bind fun x => checkedCommand (.ang z x)
    else if m = "TILT".toList then
      a.angle.bind fun x => b.angle.bind fun y => checkedCommand (.tilt x y)
    else none
  | _ => none

/-- A list of characters cut at each separator. -/
def splitAt (sep : Char) : List Char → List (List Char)
  | [] => [[]]
  | c :: cs =>
    match splitAt sep cs with
    | [] => [[c]]
    | w :: ws => if c = sep then [] :: w :: ws else (c :: w) :: ws

/-- A list of characters without the spaces at its two ends. -/
def trimSpaces (cs : List Char) : List Char :=
  ((cs.dropWhile (· = ' ')).reverse.dropWhile (· = ' ')).reverse

/-- One line (R100, R102): "a comment runs from ; to the end of the line"; an empty line is no item; `none` is an
assembler error. -/
def assembleLine (line : List Char) : Option (List TraceItem) :=
  let text := trimSpaces (line.takeWhile (· ≠ ';'))
  let m := text.takeWhile (· ≠ ' ')
  let rest := trimSpaces (text.dropWhile (· ≠ ' '))
  match m with
  | [] => some []
  | _ =>
    let ops := match rest with
      | [] => []
      | _ => (splitAt ',' rest).map fun w => readToken (trimSpaces w)
    (assembleItem m ops).map fun item => [item]

end Sys2Proof.Machine
end

