-- ==== Sys2Proof/Tests/Slice0.lean ====
section
/-! SUPPORT. Small tests of the model. The expected values are the spec's own: 95_test_vectors.md (sections named at
each group), the examples of the command rules, 30_encoding.md R102. The last part shows, for each statement that has
hypotheses, a state and operands that meet them. -/

namespace Sys2Proof.Tests

open Sys2Proof Sys2Proof.Machine Sys2Proof.Claims

/-! ### Well-formedness: each check refuses what it should -/

theorem test_wf_refuses_rdreg : (Instr.rdreg 256).wellFormed = false := by decide
theorem test_wf_refuses_hit_high : (Instr.hit 128).wellFormed = false := by decide
theorem test_wf_refuses_hit_low : (Instr.hit (-129)).wellFormed = false := by decide
theorem test_wf_refuses_setmod : (Instr.setmod 16).wellFormed = false := by decide
theorem test_wf_refuses_setfilt : (Instr.setfilt 16).wellFormed = false := by decide
theorem test_wf_refuses_setopt : (Instr.setopt 16).wellFormed = false := by decide
theorem test_wf_refuses_setwave : (Instr.setwave .one 256).wellFormed = false := by decide
theorem test_wf_refuses_setoct : (Instr.setoct .two 256).wellFormed = false := by decide
theorem test_wf_refuses_setnote : (Instr.setnote .one 128).wellFormed = false := by decide
theorem test_wf_refuses_geom : (Instr.geom 4096).wellFormed = false := by decide
theorem test_wf_refuses_ptr_angle : (Instr.ptr 2048 0).wellFormed = false := by decide
theorem test_wf_refuses_ptr_dist : (Instr.ptr 0 4096).wellFormed = false := by decide
theorem test_wf_refuses_ang : (Instr.ang .osc (-2049)).wellFormed = false := by decide
theorem test_wf_refuses_tilt_fwd : (Instr.tilt 2048 0).wellFormed = false := by decide
theorem test_wf_refuses_tilt_side : (Instr.tilt 0 (-2049)).wellFormed = false := by decide
theorem test_wf_accepts_extremes :
    ([.rdreg 255, .hit (-128), .hit 127, .setmod 15, .setnote .two (-128), .geom 4095, .ptr (-2048) 4095,
      .tilt 2047 (-2048)] : List Instr).all Instr.wellFormed = true := by decide

/-- T with one parameter changed; R5 constrains each. -/
theorem test_limits_refuse_fs : ¬ { Config.testT with fs := 0 }.Limits := by decide
theorem test_limits_refuse_empty_waves :
    ¬ { Config.testT with voice1 := { Config.testT.voice1 with waveSet := [] } }.Limits := by decide
theorem test_limits_refuse_nine_octaves :
    ¬ { Config.testT with voice2 := { Config.testT.voice2 with octSet := List.replicate 9 1 } }.Limits := by decide
theorem test_limits_refuse_octave_zero :
    ¬ { Config.testT with voice1 := { Config.testT.voice1 with octSet := [0] } }.Limits := by decide
theorem test_limits_refuse_base : ¬ { Config.testT with voice1 := { Config.testT.voice1 with base := 0 } }.Limits := by
  decide
theorem test_limits_refuse_detune :
    ¬ { Config.testT with voice1 := { Config.testT.voice1 with detune := 2147483648 } }.Limits := by decide
theorem test_limits_refuse_attack : ¬ { Config.testT with attack := 1073741824 }.Limits := by decide
theorem test_limits_refuse_rmul : ¬ { Config.testT with release := 0 }.Limits := by decide
theorem test_limits_refuse_ramp : ¬ { Config.testT with ramp := 65536 }.Limits := by decide
theorem test_limits_refuse_mod_min : ¬ { Config.testT with modMin := -2147483649 }.Limits := by decide
theorem test_limits_refuse_mod_step : ¬ { Config.testT with modStep := 2147483648 }.Limits := by decide
theorem test_limits_refuse_filt_min : ¬ { Config.testT with filtMin := 2147483648 }.Limits := by decide
theorem test_limits_refuse_filt_step : ¬ { Config.testT with filtStep := 65536 }.Limits := by decide
theorem test_limits_refuse_depth : ¬ { Config.testT with depth := 2147483648 }.Limits := by decide
theorem test_limits_refuse_master : ¬ { Config.testT with master := 16777217 }.Limits := by decide
theorem test_limits_refuse_shape :
    ¬ { Config.testT with lfoShape := [{ start := 0, level := 32768 }] }.Limits := by decide

/-! ### Decoding: words written out from the formats of R82 (95_test_vectors.md 3.1) -/

theorem test_decode_nop : decodeWord 0x00000000 = .ok .nop := by decide
theorem test_decode_start : decodeWord 0x01000000 = .ok .start := by decide
theorem test_decode_bind : decodeWord 0x02000000 = .ok .bind := by decide
theorem test_decode_rdreg : decodeWord 0x03000014 = .ok (.rdreg 0x14) := by decide
theorem test_decode_hit : decodeWord 0x10000080 = .ok (.hit (-128)) := by decide
theorem test_decode_release : decodeWord 0x11000000 = .ok .release := by decide
theorem test_decode_setmod : decodeWord 0x1200000F = .ok (.setmod 15) := by decide
theorem test_decode_setfilt : decodeWord 0x13000007 = .ok (.setfilt 7) := by decide
theorem test_decode_setopt : decodeWord 0x1400000B = .ok (.setopt 11) := by decide
theorem test_decode_setwave : decodeWord 0x200001FF = .ok (.setwave .two 255) := by decide
theorem test_decode_setoct : decodeWord 0x21000101 = .ok (.setoct .two 1) := by decide
theorem test_decode_setnote : decodeWord 0x220001F4 = .ok (.setnote .two (-12)) := by decide
theorem test_decode_geom : decodeWord 0x30000FFF = .ok (.geom 4095) := by decide
theorem test_decode_ptr : decodeWord 0x31FFFFFF = .ok (.ptr (-1) 4095) := by decide
theorem test_decode_ang : decodeWord 0x32003FFF = .ok (.ang .filtFreq (-1)) := by decide
theorem test_decode_tilt : decodeWord 0x33FD81E0 = .ok (.tilt (-40) 480) := by decide
theorem test_decode_pup : decodeWord 0x34000000 = .ok .pup := by decide

theorem test_decode_illegal_op :
    ([0x04000000, 0x05000000, 0x0F000000, 0x15000000, 0x1F000000, 0x23000000, 0x2F000000, 0x35000000, 0xFF000000,
      0xFFFFFFFF, 0x05FFFFFF] : List Word).all (fun w => decide (decodeWord w = .error .illegalOp)) = true := by
  decide

theorem test_decode_reserved :
    ([0x00000001, 0x01000001, 0x03000100, 0x10000100, 0x12000010, 0x20000200, 0x30001000, 0x32004000,
      0x34000001] : List Word).all (fun w => decide (decodeWord w = .error .reserved)) = true := by
  decide

/-- Stored bytes are little-endian (R64): `HIT -1` is 0x100000FF. -/
theorem test_decode_bytes :
    decodeBytes [0xFF, 0x00, 0x00, 0x10, 0x2A] = .ok (.hit (-1), [0x2A]) := by decide
theorem test_decode_bytes_truncated : decodeBytes [0xFF, 0x00, 0x00] = .error .truncated := by decide
theorem test_decode_table_word : decodeTableWord 32 0x31E98050 = some (.ptr (-360) 80) := by decide

/-! ### One step of each command, under T -/

/-- The state a step answers, where it answers one. -/
def nextOf : Host.Outcome State Fault Refusal → Option State
  | .next t => some t
  | .fault _ => none
  | .refused _ => none

/-- `s` with the word `w` presented, and the step taken. -/
def stepOn (s : State) (w : Nat) : Option State := nextOf (step (s.withFetchWord 32 w))

/-- After `BIND`, `START`, `GEOM 200` (R303). -/
def ready : State := { State.reset with run := true, bound := true, geomR := 200 }

/-- `ready` in EDIT mode. -/
def editing : State := { ready with mode := .edit }

theorem test_nop : stepOn ready 0x00000000 = some ready := by decide
theorem test_start : (stepOn State.reset 0x01000000).map statusWord = some 0x00000001 := by decide
theorem test_double_start :
    (stepOn ready 0x01000000).map (fun t => (t.fcode, t.fcmd, t.run)) = some (3, 0x01000000, true) := by decide
theorem test_bind : (stepOn State.reset 0x02000000).map statusWord = some 0x00000002 := by decide
theorem test_double_bind :
    (stepOn ready 0x02000000).map (fun t => (t.fcode, t.fcmd, t.bound)) = some (5, 0x02000000, true) := by decide
theorem test_rdreg : (stepOn State.reset 0x03000024).map (·.rdata) = some 0x0006E800 := by decide
theorem test_rdreg_unmapped :
    (stepOn State.reset 0x03000009).map (fun t => (t.rdata, t.fcode, t.fcmd)) = some (0, 7, 0x03000009) := by decide
/-- The second hit of program P2: the gain is kept, the ramp starts from it. -/
theorem test_hit :
    (stepOn { ready with envState := .attacking, env := 8388608, envCnt := 5 } 0x10000007).map
        (fun t => (t.voice1.freq, t.voice2.freq, t.env, t.envE0, t.envCnt, t.envState)) =
      some (675077, 677125, 8388608, 8388608, 0, .attacking) := by decide
theorem test_hit_before_start :
    (stepOn State.reset 0x10000000).map (fun t => (statusWord t, t.fcode, t.fcmd, t.envState)) =
      some (0x00000020, 4, 0x10000000, .idle) := by decide
theorem test_release :
    (stepOn { ready with envState := .holding, env := 16777216, envCnt := 10 } 0x11000000).map
        (fun t => (t.envState, t.env, t.envCnt)) = some (.releasing, 16777216, 10) := by decide
theorem test_release_before_start :
    (stepOn State.reset 0x11000000).map (fun t => (t.fcode, t.fcmd)) = some (4, 0x11000000) := by decide
theorem test_setmod :
    (stepOn State.reset 0x12000006).map (fun t => (t.modPos, t.modUnit.tgt, t.modUnit.cur, t.modUnit.act)) =
      some (6, 24576, 0, true) := by decide
theorem test_setfilt :
    (stepOn State.reset 0x1300000C).map (fun t => (t.filtPos, t.cutUnit.tgt, t.cutUnit.cur, t.cutUnit.act)) =
      some (12, 59392000, 409600, true) := by decide
theorem test_setopt_octave : (stepOn State.reset 0x14000004).map (·.voice1.freq) = some 901120 := by decide
theorem test_setopt_mirrored : (stepOn State.reset 0x1400000A).map (·.voice2.widx) = some 1 := by decide
theorem test_setwave :
    (stepOn State.reset 0x200001FF).map (fun t => (t.voice2.widx, optMask t .two, t.voice1)) =
      some (3, 0x18, State.reset.voice1) := by decide
theorem test_setoct :
    (stepOn State.reset 0x21000101).map (fun t => (t.voice2.oidx, t.voice2.freq, optMask t .two)) =
      some (1, 903168, 0x21) := by decide
theorem test_setnote :
    (stepOn State.reset 0x220001F4).map (fun t => (t.voice2.note, t.voice2.freq, regRead t 0x23)) =
      some (0xF4, 227328, some 0xFFFFFFF4) := by decide
theorem test_geom : (stepOn State.reset 0x300000C8).map (·.geomR) = some 200 := by decide
theorem test_ptr_hit :
    (stepOn ready 0x31E98050).map (fun t => (statusWord t, t.vis, t.voice1.freq)) =
      some (0x0000004B, 45, 450560) := by decide
theorem test_ptr_toggle :
    (stepOn ready 0x3100000A).map (fun t => (t.mode, t.redraw, t.envState)) = some (.edit, true, .idle) := by decide
theorem test_ang_knob :
    (stepOn ready 0x320032D0).map (fun t => (t.filtPos, t.cutUnit.tgt, t.visPend)) = some (9, 33587200, false) := by
  decide
theorem test_ang_edit : (stepOn editing 0x32001000).map (·.voice1.widx) = some 2 := by decide
theorem test_tilt :
    (stepOn ready 0x330B4168).map (fun t => (t.modPos, t.filtPos, t.modUnit.tgt, t.cutUnit.tgt)) =
      some (6, 12, 24576, 59392000) := by decide
theorem test_tilt_clamped :
    (stepOn ready 0x33FD81E0).map (fun t => (t.modPos, t.filtPos)) = some (0, 12) := by decide
theorem test_pup :
    (stepOn { ready with envState := .attacking, env := 5033164, envCnt := 3 } 0x34000000).map
        (fun t => (t.envState, t.env)) = some (.releasing, 5033164) := by decide
theorem test_pup_not_bound_first : (stepOn State.reset 0x34000000).map (·.fcode) = some 6 := by decide

/-! ### Fault record, tick, reset -/

/-- The first fault is kept (95_test_vectors.md 3.10). -/
theorem test_first_fault_wins :
    (stepOn { State.reset with fault := true, fcode := 4, fcmd := 0x10000000 } 0x05000000).map
        (fun t => (t.fcode, t.fcmd)) = some (4, 0x10000000) := by decide
theorem test_illegal_word :
    (stepOn State.reset 0x05FFFFFF).map (fun t => (t.fcode, t.fcmd)) = some (1, 0x05FFFFFF) := by decide
theorem test_reserved_word :
    (stepOn State.reset 0x01000001).map (fun t => (t.fcode, t.fcmd, t.run)) = some (2, 0x01000001, false) := by decide

/-- The tick after t = 9 and after t = 15 of an undisturbed note, and the last one of the timer (R195, P1). -/
theorem test_tick_attack_end :
    (nextOf (step { ready with envState := .attacking, env := 15099494, envCnt := 9, input := [.tick] })).map
        (fun t => (t.env, t.envState, t.envCnt)) = some (16777216, .holding, 10) := by decide
theorem test_tick_hold_end :
    (nextOf (step { ready with envState := .holding, env := 16777216, envCnt := 14, input := [.tick] })).map
        (fun t => (t.env, t.envState, t.envCnt)) = some (16777216, .releasing, 15) := by decide
theorem test_tick_release :
    (nextOf (step { ready with envState := .releasing, env := 16777216, envCnt := 15, input := [.tick] })).map
        (fun t => (t.env, t.envState)) = some (15180652, .releasing) := by decide
theorem test_tick_release_to_idle :
    (nextOf (step { ready with envState := .releasing, env := 1, envCnt := 15, input := [.tick] })).map
        (fun t => (t.env, t.envState)) = some (0, .idle) := by decide
theorem test_tick_timer_expires :
    (nextOf (step { ready with vis := 1, visPend := true, input := [.tick] })).map
        (fun t => (t.vis, t.visPend, t.visoff)) = some (0, false, true) := by decide
/-- The first tick of program P3 after the `TILT`. -/
theorem test_tick_ramps_and_phase :
    (nextOf (step { ready with
        modUnit := { cur := 0, start := 0, tgt := 24576, rc := 0, act := true }
        cutUnit := { cur := 409600, start := 409600, tgt := 59392000, rc := 0, act := true }
        input := [.tick] })).map (fun t => (t.modUnit.cur, t.cutUnit.cur, t.ph)) =
      some (6144, 15155200, 0x00624DD2) := by decide
/-- A falling ramp (R195): 10240 towards 4096. -/
theorem test_tick_falling_ramp :
    (nextOf (step { ready with
        modUnit := { cur := 10240, start := 10240, tgt := 4096, rc := 0, act := true }
        input := [.tick] })).map (·.modUnit.cur) = some 8704 := by decide
theorem test_reset_event :
    nextOf (step { ready with fault := true, fcode := 1, ph := 7, input := [.reset] }) = some State.reset := by decide
/-- A negative LFO output is rounded towards minus infinity (95_test_vectors.md section 1). -/
theorem test_lfo_floor : lfoOut { ready with ph := 0x80000000 } = -204794 := by decide
theorem test_cut_o :
    (outPorts { ready with cutUnit := { ready.cutUnit with cur := 59392000 } }).cutO = 0x038D5FF9 := by decide
theorem test_pitch_saturates :
    (pitch { Config.testT.voice1 with base := 81920000, octSet := [255] } 127 0,
      pitch { Config.testT.voice1 with detune := -819200 } 0 0) = (4294967295, 0) := by decide
/-- A command comes before a tick of the same cycle, and reset overrides both (R61, R300). -/
theorem test_cycle_order :
    (eventsOfCycle { rstI := false, cmdValidI := true, cmdI := 0x10000000, tickI := true },
      eventsOfCycle { rstI := true, cmdValidI := true, cmdI := 0x10000000, tickI := true }) =
      ([.cmd 0x10000000, .tick], [.reset]) := by decide

/-! ### Assembler (R100 to R102) -/

theorem test_assemble_ptr :
    assembleLine "PTR 511.75, 4095 ; far out".toList = some [.command (.ptr 2047 4095)] := by decide
theorem test_assemble_toggle : assembleLine "TOGGLE".toList = some [.command (.ang .toggle 0)] := by decide
theorem test_assemble_out_of_range : assembleLine "HIT 128".toList = none := by decide
theorem test_assemble_wait : (assembleLine "WAIT 3".toList).map traceOf = some [.tick, .tick, .tick] := by decide
theorem test_assemble_listing_line :
    (assembleLine "0x31E98050 ; PTR -90, 80".toList).map traceOf =
      (assembleLine "PTR -90, 80".toList).map traceOf := by decide

/-! ### Witnesses -/

/-- What `Inv` asks of a state, as one decidable condition; the configuration apart. -/
abbrev InvChecks (s : State) : Prop :=
  (s.voice1.widx.toNat < s.cfg.voice1.waveSet.length ∧ s.voice1.oidx.toNat < s.cfg.voice1.octSet.length ∧
    s.voice1.freq = pitch s.cfg.voice1 s.voice1.note.toInt s.voice1.oidx.toNat) ∧
  (s.voice2.widx.toNat < s.cfg.voice2.waveSet.length ∧ s.voice2.oidx.toNat < s.cfg.voice2.octSet.length ∧
    s.voice2.freq = pitch s.cfg.voice2 s.voice2.note.toInt s.voice2.oidx.toNat) ∧
  (∀ u ∈ [s.modUnit, s.cutUnit], u.rc.toNat ≤ s.cfg.ramp ∧
    (min u.start.toNat u.tgt.toNat ≤ u.cur.toNat ∧ u.cur.toNat ≤ max u.start.toNat u.tgt.toNat) ∧
    (u.act = false → u.cur = u.tgt) ∧
    (u.act = true → u.rc.toNat < s.cfg.ramp ∧
      (u.cur.toNat : Int) = linearRamp u.start.toNat u.tgt.toNat u.rc.toNat s.cfg.ramp)) ∧
  (s.env.toNat ≤ gainOne ∧ s.envE0.toNat ≤ gainOne ∧ s.envCnt.toNat ≤ s.cfg.attack + s.cfg.hold ∧
    (s.envState = .idle → s.env = 0) ∧
    (s.envState = .attacking → 0 < s.cfg.attack ∧ s.envCnt.toNat < s.cfg.attack ∧
      (s.env.toNat : Int) = linearRamp s.envE0.toNat gainOne s.envCnt.toNat s.cfg.attack) ∧
    (s.envState = .holding → 0 < s.cfg.hold ∧ s.env.toNat = gainOne ∧ s.cfg.attack ≤ s.envCnt.toNat ∧
      s.envCnt.toNat < s.cfg.attack + s.cfg.hold)) ∧
  ((s.fault = false → s.fcode = 0 ∧ s.fcmd = 0) ∧ (s.fault = true → 1 ≤ s.fcode.toNat ∧ s.fcode.toNat ≤ 7)) ∧
  ((s.run = false → s.envState = .idle) ∧ (s.run = false → s.visPend = false) ∧ (s.run = false → s.ph = 0)) ∧
  (s.vis.toNat ≤ noteLen s.cfg ∧ (s.visPend = false → s.vis = 0)) ∧
  (s.modUnit.tgt = modTarget s.cfg s.modPos.toNat ∧ s.cutUnit.tgt = filtTarget s.cfg s.filtPos.toNat)

theorem inv_of_checks {s : State} (hc : s.cfg = Config.testT) (h : InvChecks s) : Machine.Inv s := by
  obtain ⟨⟨a1, a2, a3⟩, ⟨b1, b2, b3⟩, hu, ⟨e1, e2, e3, e4, e5, e6⟩, ⟨f1, f2⟩, ⟨n1, n2, n3⟩, ⟨v1, v2⟩, k1, k2⟩ := h
  obtain ⟨m1, m2, m3, m4⟩ := hu s.modUnit (by simp)
  obtain ⟨c1, c2, c3, c4⟩ := hu s.cutUnit (by simp)
  exact ⟨hc ▸ Laws.testT_wellFormed, ⟨a1, a2, a3⟩, ⟨b1, b2, b3⟩, ⟨m1, m2, m3, m4⟩, ⟨c1, c2, c3, c4⟩,
    ⟨e1, e2, e3, e4, e5, e6⟩, ⟨f1, f2⟩, ⟨n1, n2, n3⟩, ⟨v1, v2⟩, ⟨k1, k2⟩⟩

/-- The last tick of the attack, of the hold, and a tick of the release, each with a tick presented. -/
def attackEnd : State := { ready with envState := .attacking, env := 15099494, envCnt := 9, input := [.tick] }
def holdEnd : State := { ready with envState := .holding, env := 16777216, envCnt := 14, input := [.tick] }
def releasing : State := { ready with envState := .releasing, env := 16777216, envCnt := 15, input := [.tick] }
/-- Both ramps in their last tick, the timer in its last tick. -/
def rampsEnd : State := { ready with
  modPos := 6, filtPos := 12
  modUnit := { cur := 18432, start := 0, tgt := 24576, rc := 3, act := true }
  cutUnit := { cur := 44646400, start := 409600, tgt := 59392000, rc := 3, act := true }
  vis := 1, visPend := true, input := [.tick] }

theorem attackEnd_inv : Machine.Inv attackEnd := inv_of_checks rfl (by decide)
theorem holdEnd_inv : Machine.Inv holdEnd := inv_of_checks rfl (by decide)
theorem releasing_inv : Machine.Inv releasing := inv_of_checks rfl (by decide)
theorem rampsEnd_inv : Machine.Inv rampsEnd := inv_of_checks rfl (by decide)
theorem ready_inv : Machine.Inv ready := inv_of_checks rfl (by decide)

/-- `ready` with the events `es` presented. -/
def presented (es : List Event) : State := { ready with input := es }

theorem presented_inv (es : List Event) : Machine.Inv (presented es) :=
  inv_of_checks rfl (show InvChecks ready by decide)

theorem witness_DecodeOfEncodeIsTheCommand :
    (Instr.hit (-128)).wellFormed = true ∧ (Instr.hit 127).wellFormed = true ∧
      (Instr.ptr (-2048) 4095).wellFormed = true := by decide

theorem witness_EncodeOfDecodeIsTheWord : decodeWord 0x31FFFFFF = .ok (.ptr (-1) 4095) := by decide

theorem witness_TableRowsAreWhatTheDecoderReads : (0xFFFFFF00, 0x10000000, "HIT") ∈ tableRows := by
  simp [tableRows]

/-- Both ends of each range of unassigned opcodes. -/
theorem witness_UnassignedOpcodeRaisesIllegalOp :
    ∀ op ∈ [0x04, 0x05, 0x0F, 0x15, 0x1F, 0x23, 0x2F, 0x35, 0xFF],
      (presented [.cmd (BitVec.ofNat 32 (op * 2 ^ 24))]).input = .cmd (BitVec.ofNat 32 (op * 2 ^ 24)) :: [] ∧
        Unassigned ((BitVec.ofNat 32 (op * 2 ^ 24)).toNat / 2 ^ 24) := by
  unfold Unassigned; decide

/-- The lowest reserved bit of a row of each width; `PTR` and `TILT` have no reserved bit (R82). -/
theorem witness_ReservedPayloadBitRaisesReserved :
    ∀ p ∈ ([((0x01, 0x000000), 0x01000001), ((0x10, 0x0000FF), 0x10000100), ((0x12, 0x00000F), 0x12000010),
        ((0x20, 0x0001FF), 0x20000200), ((0x30, 0x000FFF), 0x30001000), ((0x32, 0x003FFF), 0x32004000)] :
        List ((BitVec 8 × BitVec 24) × Word)),
      p.1 ∈ fieldMasks ∧ (presented [.cmd p.2]).input = .cmd p.2 :: [] ∧ p.2.extractLsb' 24 8 = p.1.1 ∧
        p.2.extractLsb' 0 24 &&& ~~~p.1.2 ≠ 0 := by
  intro p hp
  simp only [List.mem_cons, List.not_mem_nil, or_false] at hp
  rcases hp with rfl | rfl | rfl | rfl | rfl | rfl <;>
    exact ⟨by simp [fieldMasks], rfl, by decide, by decide⟩

theorem witness_StepRunsTheDecodedCommand :
    (presented [.cmd 0x10000007, .tick]).input = .cmd 0x10000007 :: [.tick] ∧
      decodeWord 0x10000007 = .ok (.hit 7) := by decide

theorem witness_StepTakesOneEventAndKeepsTheConfiguration : (presented []).input = [] := rfl

theorem witness_OnlyResetClearsRunBoundAndFault :
    (presented [.tick]).input = .tick :: [] ∧ Event.tick ≠ .reset ∧ (presented [.tick]).run = true ∧
      (presented [.tick]).bound = true ∧
      ({ presented [.tick] with fault := true, fcode := 4, fcmd := 0x10000000 } : State).fault = true := by decide

theorem witness_ModeChangesExactlyWithRedraw :
    (presented [.cmd 0x32000000]).input = .cmd 0x32000000 :: [] ∧ Event.cmd 0x32000000 ≠ .reset ∧
      (nextOf (step (presented [.cmd 0x32000000]))).map (·.redraw) = some true := by decide

theorem witness_FaultingCommandChangesOnlyTheRecord :
    (presented [.cmd 0x01000000]).input = .cmd 0x01000000 :: [] ∧ (presented [.cmd 0x01000000]).fault = false ∧
      (nextOf (step (presented [.cmd 0x01000000]))).map (·.fault) = some true := by decide

theorem witness_CommandsRaiseOnlyTheirFaults :
    ready.fault = false ∧ (nextOf (exec .bind ready)).map (·.fault) = some true := by decide

theorem witness_RecordedFaultChangesNoBehaviour :
    ready ≠ { ready with fault := true, fcode := 4, fcmd := 0x10000000, rdata := 7 } ∧
      withoutRecord ready = withoutRecord { ready with fault := true, fcode := 4, fcmd := 0x10000000, rdata := 7 } ∧
      ∀ w rest, (presented [.cmd 0x03000004]).input = .cmd w :: rest →
        w ∉ [0x03000001#32, 0x03000002#32, 0x03000003#32] := by
  refine ⟨by decide, by decide, ?_⟩
  rintro w rest h
  cases h; decide

/-- A press in zone OSC, at both ends of the zone for radius 200 (R226): distances 54 and 100. -/
theorem press_osc (s : State) (h : s.geomR = 200) :
    IsPress s (.ang .osc (-360)) .osc (-360) ∧ IsPress s (.ptr (-360) 54) .osc (-360) ∧
      IsPress s (.ptr (-360) 100) .osc (-360) := by
  refine ⟨.inl rfl, .inr ⟨54, rfl, ?_⟩, .inr ⟨100, rfl, ?_⟩⟩ <;> rw [h] <;> decide

theorem witness_CommandsBeforeBindOrStartFault :
    State.reset.bound = false ∧ State.reset.run = false ∧
      ∃ s : State, s.run = false ∧ s.bound = true ∧ s.mode = .play ∧ IsPress s (.ptr (-360) 54) .osc (-360) :=
  ⟨rfl, rfl, { ready with run := false }, rfl, rfl, rfl, (press_osc _ rfl).2.1⟩

theorem witness_NopChangesNothing :
    (presented [.cmd 0x00000001]).input = .cmd 0x00000001 :: [] ∧ (0x00000001#32).extractLsb' 24 8 = 0#8 ∧
      (presented [.cmd 0x00000000]).input = .cmd 0x00000000 :: [] ∧ (0x00000000#32).extractLsb' 24 8 = 0#8 := by
  decide

theorem witness_StartSetsRunOnce : State.reset.run = false ∧ ready.run = true := by decide
theorem witness_BindSetsBoundOnce : State.reset.bound = false ∧ ready.bound = true := by decide

theorem witness_RdregReadsTheMap :
    (∀ a ∈ [0x00, 0x08, 0x10, 0x15, 0x34, 0x3B, 0x46, 0x48, 0x4C], a < 256 ∧ Mapped a) ∧
      ∀ a ∈ [0x09, 0x0F, 0x16, 0x35, 0x3C, 0x47, 0x4D, 0xFF], a < 256 ∧ ¬ Mapped a := by
  unfold Mapped; decide

theorem witness_RegisterMapPresentsTheState : ready.cfg.Limits ∧ ¬ Mapped 0x47 :=
  ⟨Laws.testT_limits, by unfold Mapped; decide⟩

theorem witness_HitRetargetsPitchAndAttack : ready.run = true := rfl
theorem witness_ReleaseOnlyMovesTheEnvelopeState : attackEnd.run = true ∧ attackEnd.envState = .attacking := by decide
theorem witness_SetoptFollowsTheOptionTable : 0 < 16 ∧ 15 < 16 := by decide
theorem witness_SetwaveSelectsTheWaveform : ready.cfg.Limits ∧ exec (.setwave .one 255) ready =
    .next (voiceSetWave .one 255 ready) := ⟨Laws.testT_limits, rfl⟩
theorem witness_SetoctRecomputesTheFrequency : ready.cfg.Limits := Laws.testT_limits
theorem witness_SetnoteSetsThePitch :
    ((-128 : Int) ≤ -128 ∧ (-128 : Int) ≤ 127) ∧ ((-128 : Int) ≤ 127 ∧ (127 : Int) ≤ 127) := by decide
theorem witness_PitchRisesAndOctavesAreExact :
    (-1 : Int) ≤ 0 ∧ Config.testT.voice1.detune = 0 ∧
      Config.testT.voice1.base * Config.testT.voice1.octSet.getD 2 0 * 2 ^ 10 < 2 ^ 32 := by decide
/-- The last waveform, the last octave and the first bit above them. -/
theorem witness_OptionMaskFlagsTheSelection :
    ready.cfg.Limits ∧ VoiceInv (ready.cfg.voice .one) (ready.voice .one) ∧
      3 < (ready.cfg.voice .one).waveSet.length ∧ 2 < (ready.cfg.voice .one).octSet.length ∧
      (ready.cfg.voice .one).waveSet.length + (ready.cfg.voice .one).octSet.length ≤ 7 :=
  ⟨Laws.testT_limits, ready_inv.voice1, by decide, by decide, by decide⟩
theorem witness_KnobPositionIsRecovered :
    (0 < Config.testT.filtStep ∧ 0 ≤ Config.testT.filtMin + (Config.testT.filtStep * (15 : Nat) : Int) ^ 2 ∧
      Config.testT.filtMin + (Config.testT.filtStep * (15 : Nat) : Int) ^ 2 < 2 ^ 32) ∧
    Config.testT.modStep ≠ 0 ∧ 0 ≤ Config.testT.modMin + Config.testT.modStep * (15 : Nat) ∧
      Config.testT.modMin + Config.testT.modStep * (15 : Nat) < 2 ^ 32 := by decide
theorem witness_GeomRecordsTheRadius : 4095 < 4096 := by decide

/-- Distance 53 is the last of the toggle for radius 200 (R226). -/
theorem witness_TogglePressFlipsTheMode :
    ready.bound = true ∧ IsPress ready (.ang .toggle 2047) .toggle 2047 ∧
      IsPress ready (.ptr 0 53) .toggle 0 :=
  ⟨rfl, .inl rfl, .inr ⟨53, rfl, by decide⟩⟩

theorem witness_EditPressSelectsTheOption :
    editing.bound = true ∧ editing.mode = .edit ∧ Zone.osc ≠ .toggle ∧
      IsPress editing (.ptr (-360) 54) .osc (-360) :=
  ⟨rfl, rfl, by decide, (press_osc _ rfl).2.1⟩

theorem witness_PlayPressHitsTheNote :
    ready.bound = true ∧ ready.run = true ∧ ready.mode = .play ∧ IsPress ready (.ptr (-360) 100) .osc (-360) :=
  ⟨rfl, rfl, rfl, (press_osc _ rfl).2.2⟩

/-- The first and last distance of MODSPEED and the first of FILTFREQ for radius 200 (R226). -/
theorem witness_PlayPressTurnsTheKnob :
    ready.bound = true ∧ ready.mode = .play ∧ IsPress ready (.ptr 360 101) .modSpeed 360 ∧
      IsPress ready (.ptr 360 166) .modSpeed 360 ∧ IsPress ready (.ptr 720 167) .filtFreq 720 :=
  ⟨rfl, rfl, .inr ⟨101, rfl, by decide⟩, .inr ⟨166, rfl, by decide⟩, .inr ⟨167, rfl, by decide⟩⟩

theorem witness_TiltTurnsBothKnobs :
    ready.bound = true ∧ ready.mode = .play ∧ editing.bound = true ∧ editing.mode = .edit := by decide
theorem witness_PupReleasesInPlayMode :
    ready.bound = true ∧ ready.mode = .play ∧ ready.run = true ∧ editing.bound = true ∧ editing.mode = .edit := by
  decide
/-- Both ends of both ranges for k = 0. -/
theorem witness_NoteAndKnobDivergeAtBoundaries :
    ((-360 + 120 * 0 : Int) < -359 ∧ (-301 : Int) < -300 + 120 * 0) ∧
      ((-300 + 120 * 0 : Int) ≤ -300 ∧ (-240 : Int) ≤ -240 + 120 * 0) := by decide
theorem witness_ZonesFollowTheRadialMeasure : 0 < 54 ∧ 200 < 201 := by decide
theorem witness_TiltPositionRoundsHalfUp : (0 : Int) ≤ 0 ∧ (360 : Int) ≤ 360 := by decide

theorem witness_TickLeavesTheRestAlone :
    (presented [.tick]).input = .tick :: [] ∧ (presented [.tick]).envState = .idle := by decide
theorem witness_TickMovesBothRamps :
    Machine.Inv rampsEnd ∧ rampsEnd.input = .tick :: [] ∧ rampsEnd.modUnit.act = true ∧
      rampsEnd.modUnit.rc.toNat + 1 = rampsEnd.cfg.ramp ∧ Machine.Inv attackEnd ∧ attackEnd.modUnit.act = false :=
  ⟨rampsEnd_inv, rfl, rfl, by decide, attackEnd_inv, rfl⟩
theorem witness_TickAdvancesTheLfoPhase :
    rampsEnd.input = .tick :: [] ∧ rampsEnd.run = true ∧
      ({ State.reset with input := [.tick] } : State).run = false := by decide
theorem witness_TickInAttackFollowsTheLine :
    Machine.Inv attackEnd ∧ attackEnd.input = .tick :: [] ∧ attackEnd.envState = .attacking ∧
      attackEnd.envCnt.toNat + 1 = attackEnd.cfg.attack ∧
      Machine.Inv { ready with envState := .attacking, input := [.tick] } :=
  ⟨attackEnd_inv, rfl, rfl, by decide, inv_of_checks rfl (by decide)⟩
theorem witness_TickInHoldCountsToTheRelease :
    Machine.Inv holdEnd ∧ holdEnd.input = .tick :: [] ∧ holdEnd.envState = .holding :=
  ⟨holdEnd_inv, rfl, rfl⟩
theorem witness_TickInReleaseDecaysTheGain :
    Machine.Inv releasing ∧ releasing.input = .tick :: [] ∧ releasing.envState = .releasing ∧
      1 ≤ releasing.env.toNat :=
  ⟨releasing_inv, rfl, rfl, by decide⟩
theorem witness_TickCountsTheVisualTimer :
    (presented [.tick]).input = .tick :: [] ∧ (presented [.tick]).visPend = false ∧
      rampsEnd.input = .tick :: [] ∧ rampsEnd.visPend = true ∧ rampsEnd.vis.toNat ≤ 1 ∧
      1 < ({ rampsEnd with vis := 2 } : State).vis.toNat := by decide
theorem witness_LfoOutputIsTheScaledShape :
    ready.cfg.Limits ∧ ready.run = true ∧ State.reset.run = false ∧ { Config.testT with depth := 0 }.Limits :=
  ⟨Laws.testT_limits, rfl, rfl, by decide⟩

theorem witness_EveryStepKeepsTheInvariant :
    Machine.Inv rampsEnd ∧ ∃ t, step rampsEnd = .next t := ⟨rampsEnd_inv, _, rfl⟩
theorem witness_ResetStateMeetsTheInvariant : Config.testT.WellFormed := Laws.testT_wellFormed
theorem witness_ResetEventGivesTheResetTable : (presented [.reset]).input = .reset :: [] := rfl

/-- At the hit, at the ends of the attack and of the hold, and one tick later; by `HIT` and by a press. -/
theorem witness_UndisturbedNoteFollowsItsEnvelope :
    ∀ k ∈ [0, 1, 10, 15, 16], ∀ i ∈ [Instr.hit (-128), .ptr (-360) 54],
      Machine.Inv (presented (.cmd (encode i) :: List.replicate k .tick)) ∧
        IsHit (presented (.cmd (encode i) :: List.replicate k .tick)) i := by
  intro k _ i hi
  refine ⟨presented_inv _, rfl, ?_⟩
  simp only [List.mem_cons, List.not_mem_nil, or_false] at hi
  rcases hi with rfl | rfl
  · exact ⟨by decide, .inl ⟨_, rfl⟩⟩
  · exact ⟨by decide, .inr ⟨rfl, rfl, -360, (press_osc _ rfl).2.1⟩⟩

theorem witness_ReleaseDecaysBelowFivePercent :
    (Machine.Inv { releasing with input := List.replicate 30 .tick } ∧ releasing.envState = .releasing ∧
      1 ≤ releasing.cfg.release) ∧
    Machine.Inv (presented (.cmd (encode (.hit 0)) :: List.replicate 45 .tick)) ∧
      IsHit (presented (.cmd (encode (.hit 0)) :: List.replicate 45 .tick)) (.hit 0) :=
  ⟨⟨inv_of_checks rfl (show InvChecks releasing by decide), rfl, by decide⟩, presented_inv _, rfl, by decide,
    .inl ⟨_, rfl⟩⟩

theorem witness_KnobArrivesInItsWindow :
    ∀ k ∈ [0, 3, 4], Machine.Inv (presented (.cmd (encode (.setmod 15)) :: List.replicate k .tick)) ∧
      Machine.Inv (presented (.cmd (encode (.setfilt 15)) :: List.replicate k .tick)) ∧ 15 < 16 :=
  fun _ _ => ⟨presented_inv _, presented_inv _, by decide⟩

theorem witness_NewPressReplacesTheVisualTimer :
    ∀ k ∈ [1, 44, 45, 46],
      Machine.Inv { presented (.cmd (encode (.ptr (-360) 54)) :: List.replicate k .tick) with
        vis := 5, visPend := true } ∧
      IsPress ready (.ptr (-360) 54) .osc (-360) ∧ (Instr.ptr (-360) 54).wellFormed = true ∧ 1 ≤ k := by
  intro k hk
  refine ⟨inv_of_checks rfl (show InvChecks { ready with vis := 5, visPend := true } by decide),
    (press_osc _ rfl).2.1, by decide, ?_⟩
  revert k; decide

end Sys2Proof.Tests
end

section
/-! PROOFS. The state family (10_state.md): the reset event. -/

namespace Sys2Proof.Proofs.StateReset

open Sys2Proof Sys2Proof.Machine Sys2Proof.Claims

/-- `clamp` as a minimum of a maximum (R8). -/
theorem clamp_eq_min_max (x : Int) {lo hi : Int} (h : lo ≤ hi) : clamp x lo hi = min (max x lo) hi := by
  rcases lt_or_ge x lo with hx | hx
  · rw [clamp_of_lt hx, max_eq_right hx.le, min_eq_left h]
  rcases lt_or_ge hi x with hx' | hx'
  · rw [clamp_of_gt h hx', max_eq_left hx, min_eq_right hx'.le]
  · rw [clamp_of_mem hx hx', max_eq_left hx, min_eq_left hx']

/-- The model's `clamp32` is the claims' `saturated` (R8). -/
theorem clamp32_eq_saturated (x : Int) : clamp32 x = saturated x := by
  have hclamp : clamp x 0 (2 ^ 32 - 1) = min (max x 0) 4294967295 := clamp_eq_min_max x (by norm_num)
  have hnonneg : 0 ≤ min (max x 0) 4294967295 := by omega
  rw [clamp32, saturated, hclamp, ← BitVec.ofInt_natCast, Int.toNat_of_nonneg hnonneg]

/-- A ramp unit after reset is at rest at its map's saturated value for position 0 (R54). -/
theorem rampUnit_resetOf_eq (x : Int) :
    RampUnit.resetOf x =
      { cur := saturated x, start := saturated x, tgt := saturated x, rc := 0, act := false } := by
  rw [RampUnit.resetOf, clamp32_eq_saturated]

/-- A reset event at the front of the trace answers the reset state of the same configuration (R300). -/
theorem step_reset {s : State} {rest : List Event} (h : s.input = .reset :: rest) :
    step s = .next { State.resetOf s.cfg with input := rest } := by
  rw [step_cons h]; rfl

/-- Settles O55: the next state is `State.resetOf` of the same configuration, whose fields are those of R54's table
once the ramp units' `clamp32` is read as `saturated`. -/
theorem resetEventGivesTheResetTable : Obligations.ResetEventGivesTheResetTable := by
  intro s rest h
  refine ⟨_, step_reset h, ?_⟩
  rw [State.resetOf, rampUnit_resetOf_eq, rampUnit_resetOf_eq, VoiceState.resetOf, VoiceState.resetOf]

end Sys2Proof.Proofs.StateReset
end

section
/-! PROOFS. The encoding family (30_encoding.md): the opcode byte, the reserved bits of the payload, and the two
faults of a word that is no command. -/

namespace Sys2Proof.Proofs.EncodingWords

open Sys2Proof Sys2Proof.Machine Sys2Proof.Claims Sys2Proof.Laws.EncodingRow

/-! ### The decoder -/

/-- The assigned opcodes in the order of the opcode table (R81). -/
def opcodes : List Opcode :=
  [.nop, .start, .bind, .rdreg, .hit, .release, .setmod, .setfilt, .setopt, .setwave, .setoct, .setnote,
   .geom, .ptr, .ang, .tilt, .pup]

theorem mem_opcodes (op : Opcode) : op ∈ opcodes := by cases op <;> decide

@[simp] theorem opcodeOfByte_opcodeByte (op : Opcode) : opcodeOfByte (opcodeByte op).toNat = some op := by
  cases op <;> rfl

/-- A value is assigned to the opcode it is the byte of, and to no other (R81). -/
theorem opcodeOfByte_eq_some_iff {n : Nat} {op : Opcode} : opcodeOfByte n = some op ↔ n = (opcodeByte op).toNat := by
  refine ⟨fun h => ?_, fun h => h ▸ opcodeOfByte_opcodeByte op⟩
  unfold opcodeOfByte at h
  split at h <;> cases h <;> rfl

theorem not_unassigned_opcodeByte (op : Opcode) : ¬ Unassigned (opcodeByte op).toNat := by
  unfold Unassigned
  cases op <;> decide

/-- The values R86 lists are assigned to no opcode. -/
theorem opcodeOfByte_of_unassigned {n : Nat} (h : Unassigned n) : opcodeOfByte n = none := by
  cases hop : opcodeOfByte n with
  | none => rfl
  | some op =>
    obtain rfl := opcodeOfByte_eq_some_iff.mp hop
    exact absurd h (not_unassigned_opcodeByte op)

/-- The opcode is bits 31:24, the word divided by `2^24` (R80). -/
theorem fieldU_opcode (w : Word) : fieldU w 24 8 = w.toNat / 2 ^ 24 := by
  have hw : w.toNat < 2 ^ 32 := w.isLt
  rw [fieldU, BitVec.extractLsb'_toNat, Nat.shiftRight_eq_div_pow]
  omega

/-- Steps 1 to 3 of R83 for a word whose opcode byte is assigned. -/
theorem decodeWord_of_opcode {w : Word} {op : Opcode} (h : w.extractLsb' 24 8 = opcodeByte op) :
    decodeWord w = if reservedBits op w = 0 then .ok (assemble op w) else .error .reserved := by
  rw [decodeWord, fieldU, h, opcodeOfByte_opcodeByte]

theorem decodeWord_of_unassigned {w : Word} (h : Unassigned (w.toNat / 2 ^ 24)) :
    decodeWord w = .error .illegalOp := by
  rw [decodeWord, fieldU_opcode, opcodeOfByte_of_unassigned h]

theorem decodeWord_of_reservedBits {w : Word} {op : Opcode} (h : w.extractLsb' 24 8 = opcodeByte op)
    (hr : reservedBits op w ≠ 0) : decodeWord w = .error .reserved := by
  rw [decodeWord_of_opcode h, if_neg hr]

/-- A word decodes exactly when its opcode byte is assigned and no reserved bit is set (R84). -/
theorem decodeWord_eq_ok_iff {w : Word} {i : Instr} :
    decodeWord w = .ok i ↔
      ∃ op, w.extractLsb' 24 8 = opcodeByte op ∧ reservedBits op w = 0 ∧ assemble op w = i := by
  constructor
  · intro h
    cases hop : opcodeOfByte (w.extractLsb' 24 8).toNat with
    | none =>
      rw [decodeWord, fieldU, hop] at h
      cases h
    | some op =>
      have hbyte := BitVec.eq_of_toNat_eq (opcodeOfByte_eq_some_iff.mp hop)
      rw [decodeWord_of_opcode hbyte] at h
      split at h
      next hr => exact ⟨op, hbyte, hr, Except.ok.inj h⟩
      next => cases h
  · rintro ⟨op, hbyte, hr, rfl⟩
    rw [decodeWord_of_opcode hbyte, if_pos hr]

/-! ### The rows of the opcode table -/

/-- The mnemonic of an opcode: that of its command with payload 0. -/
def mnemonicOf (op : Opcode) : String := (assemble op 0).mnemonic

theorem mnemonic_assemble (op : Opcode) (w : Word) : (assemble op w).mnemonic = mnemonicOf op := by
  cases op <;> rfl

/-- No two opcodes share a mnemonic (R81). -/
theorem mnemonicOf_injective : Function.Injective mnemonicOf := by
  have hnodup : (opcodes.map mnemonicOf).Nodup := by decide
  exact fun a b h => List.inj_on_of_nodup_map hnodup (mem_opcodes a) (mem_opcodes b) h

theorem tableRows_eq : tableRows = opcodes.map fun op => (rowMask op, rowMatch op, mnemonicOf op) := rfl

/-- The fixed bits of a row are the opcode byte and the bits outside the field mask (R84). -/
theorem rowMask_eq (op : Opcode) : rowMask op = (0xFF#8 ++ ~~~fieldMask op : BitVec 32) := by
  cases op <;> decide

theorem append_eq_append_iff {n m : Nat} {a b : BitVec n} {x y : BitVec m} :
    a ++ x = b ++ y ↔ a = b ∧ x = y := by
  constructor
  · intro h
    have hhigh := congrArg (BitVec.extractLsb' m n) h
    have hlow := congrArg (BitVec.extractLsb' 0 m) h
    rw [BitVec.extractLsb'_append_eq_left, BitVec.extractLsb'_append_eq_left] at hhigh
    rw [BitVec.extractLsb'_append_eq_right, BitVec.extractLsb'_append_eq_right] at hlow
    exact ⟨hhigh, hlow⟩
  · rintro ⟨rfl, rfl⟩
    rfl

/-- The masked bits of a word read as a row's match exactly when the opcode byte is the row's and no reserved bit is
set (R84). -/
theorem and_rowMask_eq_rowMatch_iff (w : Word) (op : Opcode) :
    w &&& rowMask op = rowMatch op ↔ w.extractLsb' 24 8 = opcodeByte op ∧ reservedBits op w = 0 := by
  have hsplit : w = (w.extractLsb' 24 8 ++ w.extractLsb' 0 24 : BitVec 32) :=
    (BitVec.extractLsb'_append_extractLsb' (w := 8) (len := 24) (x := w)).symm
  have hones : w.extractLsb' 24 8 &&& 0xFF#8 = w.extractLsb' 24 8 := BitVec.and_allOnes
  have hmasked : w &&& rowMask op = (w.extractLsb' 24 8 ++ reservedBits op w : BitVec 32) := by
    conv_lhs => rw [hsplit, rowMask_eq, BitVec.and_append, hones]
    rfl
  rw [hmasked, rowMatch_eq]
  exact append_eq_append_iff

/-- Settles O3: both sides say that the opcode byte is the row's and that no reserved bit is set. -/
theorem tableRowsAreWhatTheDecoderReads : Obligations.TableRowsAreWhatTheDecoderReads := by
  intro row hrow w
  rw [tableRows_eq, List.mem_map] at hrow
  obtain ⟨op, -, rfl⟩ := hrow
  rw [and_rowMask_eq_rowMatch_iff]
  constructor
  · rintro ⟨hbyte, hr⟩
    exact ⟨_, decodeWord_eq_ok_iff.mpr ⟨op, hbyte, hr, rfl⟩, mnemonic_assemble op w⟩
  · rintro ⟨i, hi, hname⟩
    obtain ⟨op', hbyte, hr, rfl⟩ := decodeWord_eq_ok_iff.mp hi
    rw [mnemonic_assemble] at hname
    obtain rfl := mnemonicOf_injective hname
    exact ⟨hbyte, hr⟩

/-! ### The faults of a word -/

/-- `raise Fault` is the record of the fault's number (R271, R272). -/
theorem raiseFault_eq_recorded (c : FaultCode) (w : Word) (s : State) :
    raiseFault c w s = recorded (faultNumber c).toNat w s := by
  cases hs : s.fault with
  | false => simp [raiseFault_of_clear hs, recorded, hs]
  | true => rw [raiseFault_of_set hs, recorded, if_pos hs]

/-- A step on a word that is no command records the fault of the word (R83). -/
theorem step_illegalOp {s : State} {w : Word} {rest : List Event} (h : s.input = .cmd w :: rest)
    (hw : decodeWord w = .error .illegalOp) : step s = .next (recorded 1 w (s.beginEvent rest)) := by
  rw [step_cons h, runEvent, runCommand_illegalOp hw, raiseFault_eq_recorded]; rfl

theorem step_reserved {s : State} {w : Word} {rest : List Event} (h : s.input = .cmd w :: rest)
    (hw : decodeWord w = .error .reserved) : step s = .next (recorded 2 w (s.beginEvent rest)) := by
  rw [step_cons h, runEvent, runCommand_reserved hw, raiseFault_eq_recorded]; rfl

/-- Settles O5: a word with an unassigned opcode does not decode, and its step records `ILLEGAL_OP`. -/
theorem unassignedOpcodeRaisesIllegalOp : Obligations.UnassignedOpcodeRaisesIllegalOp :=
  fun _ _ _ h hop => step_illegalOp h (decodeWord_of_unassigned hop)

/-- The masks of R84 are the model's field masks, each with its opcode byte. -/
theorem exists_opcode_of_mem_fieldMasks {row : BitVec 8 × BitVec 24} (h : row ∈ fieldMasks) :
    ∃ op, (opcodeByte op, fieldMask op) = row := by
  have hsub : fieldMasks ⊆ opcodes.map fun op => (opcodeByte op, fieldMask op) := by decide
  obtain ⟨op, -, hop⟩ := List.mem_map.mp (hsub h)
  exact ⟨op, hop⟩

/-- Settles O6: a payload bit outside the row's mask is a reserved bit of the row's opcode, so the word does not
decode and its step records `RESERVED`. -/
theorem reservedPayloadBitRaisesReserved : Obligations.ReservedPayloadBitRaisesReserved := by
  intro row hrow s w rest h hbyte hbits
  obtain ⟨op, rfl⟩ := exists_opcode_of_mem_fieldMasks hrow
  exact step_reserved h (decodeWord_of_reservedBits hbyte hbits)

end Sys2Proof.Proofs.EncodingWords
end

section
/-! PROOFS. The voice family (40_voice.md): the pitch law, and the three commands that write a voice. -/

namespace Sys2Proof.Proofs.VoiceCommands

open Sys2Proof Sys2Proof.Machine Sys2Proof.Claims
open Sys2Proof.Proofs.StateReset (clamp_eq_min_max)

/-! ### The pitch law -/

/-- For whole octaves up, R113 shifts the product left and then drops the scale of `SEMI`. -/
theorem floor_octaves_up (num m : ℕ) :
    ⌊(num : ℚ) * 2 ^ (m : ℤ) / 2 ^ 30⌋ = ((num * 2 ^ m / 2 ^ 30 : ℕ) : ℤ) := by
  rw [zpow_natCast]
  exact_mod_cast Rat.floor_natCast_div_natCast (num * 2 ^ m) (2 ^ 30)

/-- For whole octaves down, R113 drops the octaves and the scale of `SEMI` in one shift, so it rounds once. -/
theorem floor_octaves_down (num m : ℕ) :
    ⌊(num : ℚ) * 2 ^ (-(m : ℤ)) / 2 ^ 30⌋ = ((num / 2 ^ (30 + m) : ℕ) : ℤ) := by
  have hquot : (num : ℚ) * 2 ^ (-(m : ℤ)) / 2 ^ 30 = num / 2 ^ (30 + m) := by
    rw [zpow_neg, zpow_natCast, ← div_eq_mul_inv, div_div, pow_add, mul_comm (2 ^ m)]
  rw [hquot]
  exact_mod_cast Rat.floor_natCast_div_natCast num (2 ^ (30 + m))

/-- The un-detuned frequency is the floor of the exact product, on both branches of R113. -/
theorem rawPitch_eq_floor (vc : VoiceConfig) (n : Int) (oidx : Nat) :
    (rawPitch vc n oidx : ℤ) =
      ⌊((vc.base * semiAt (n % 12).toNat * octMulAt vc oidx : ℕ) : ℚ) * 2 ^ (n / 12) / 2 ^ 30⌋ := by
  rw [rawPitch]
  rcases lt_or_ge (n / 12) 0 with he | he
  · obtain ⟨m, hm⟩ := Int.exists_eq_neg_ofNat he.le
    rw [if_neg he.not_ge, hm, floor_octaves_down, neg_neg, Int.toNat_natCast]
  · obtain ⟨m, hm⟩ := Int.eq_ofNat_of_zero_le he
    rw [if_pos he, hm, floor_octaves_up, Int.toNat_natCast]

/-- The detune is added after the rounding, and the sum is saturated (R113). -/
theorem pitch_toNat (vc : VoiceConfig) (n : Int) (oidx : Nat) :
    ((pitch vc n oidx).toNat : ℤ) = min (max ((rawPitch vc n oidx : ℤ) + vc.detune) 0) 4294967295 := by
  rw [pitch, clamp32_toNat, clamp_eq_min_max _ (by norm_num)]
  rfl

/-- Settles O28: the saturated sum of the detune and the floor of the exact product. -/
theorem pitchIsTheFlooredProduct : Obligations.PitchIsTheFlooredProduct := by
  intro vc n oidx
  have hsemi : semitones.getD (n % 12).toNat 0 = semiAt (n % 12).toNat := rfl
  have hoct : vc.octSet.getD oidx 0 = octMulAt vc oidx := rfl
  rw [pitch_toNat, rawPitch_eq_floor, hsemi, hoct, Nat.cast_mul, Nat.cast_mul]

/-! ### Operands in their registers -/

/-- The constraints of R5 hold of each voice. -/
theorem limits_voice {c : Config} (h : c.Limits) (v : Voice) : (c.voice v).Limits := by
  obtain ⟨-, h₁, h₂, -⟩ := h
  cases v with
  | one => exact h₁
  | two => exact h₂

/-- An index into a set of at most eight entries fits its 3-bit register (R5, R23). -/
theorem toNat_ofNat_mod (idx : Nat) {n : Nat} (h₁ : 1 ≤ n) (h₈ : n ≤ 8) :
    (BitVec.ofNat 3 (idx % n)).toNat = idx % n := by
  have hlt : idx % n < n := Nat.mod_lt idx h₁
  rw [BitVec.toNat_ofNat, Nat.mod_eq_of_lt (by omega)]

/-- A note of R116's range fits its 8-bit register. -/
theorem toInt_ofInt_note {n : Int} (hlo : -128 ≤ n) (hhi : n ≤ 127) : (BitVec.ofInt 8 n).toInt = n :=
  BitVec.toInt_ofInt_eq_self (by decide) hlo (by omega)

/-- A valid selector shows the entry it selects (R24). -/
theorem getElem?_waveSet_eq_waveKind {s : State} {v : Voice}
    (h : (s.voice v).widx.toNat < (s.cfg.voice v).waveSet.length) :
    (s.cfg.voice v).waveSet[(s.voice v).widx.toNat]? = some (waveKind s v) := by
  rw [waveKind, waveKindAt, List.getD_eq_getElem?_getD, List.getElem?_eq_getElem h, Option.getD_some]

/-! ### The commands, for either voice -/

/-- After `voice_setwave` the selector holds the reduced index and the waveform is the entry there (R114). -/
theorem voiceSetWave_selects (v : Voice) (idx : Nat) {s : State} (h : s.cfg.Limits) :
    ((voiceSetWave v idx s).voice v).widx.toNat = idx % (s.cfg.voice v).waveSet.length ∧
    (s.cfg.voice v).waveSet[idx % (s.cfg.voice v).waveSet.length]? = some (waveKind (voiceSetWave v idx s) v) := by
  obtain ⟨hne, hle, -⟩ := limits_voice h v
  have hw : ((voiceSetWave v idx s).voice v).widx.toNat = idx % (s.cfg.voice v).waveSet.length := by
    rw [voiceSetWave, voice_setVoice_same, toNat_ofNat_mod idx hne hle]
  have hlt : ((voiceSetWave v idx s).voice v).widx.toNat < (s.cfg.voice v).waveSet.length :=
    hw ▸ Nat.mod_lt idx hne
  exact ⟨hw, hw ▸ getElem?_waveSet_eq_waveKind (s := voiceSetWave v idx s) hlt⟩

/-- `SETOCT` writes one voice: the selector with the reduced index, the frequency with the stored note's pitch at the
new selector (R115, R119). -/
theorem exec_setoct (v : Voice) (idx : Nat) {s : State} (h : s.cfg.Limits) :
    ∃ x : VoiceState, exec (.setoct v idx) s = .next (s.setVoice v x) ∧
      x.oidx.toNat = idx % (s.cfg.voice v).octSet.length ∧ x.widx = (s.voice v).widx ∧
      x.note = (s.voice v).note ∧ x.freq = pitch (s.cfg.voice v) (s.voice v).note.toInt x.oidx.toNat := by
  obtain ⟨-, -, hne, hle, -⟩ := limits_voice h v
  have hidx := toNat_ofNat_mod idx hne hle
  exact ⟨_, rfl, hidx, rfl, rfl, congrArg (pitch _ _) hidx.symm⟩

/-- `SETNOTE` writes one voice: the note, and the frequency with its pitch at the selector held (R116, R120). -/
theorem exec_setnote (v : Voice) {n : Int} (hlo : -128 ≤ n) (hhi : n ≤ 127) (s : State) :
    ∃ x : VoiceState, exec (.setnote v n) s = .next (s.setVoice v x) ∧
      x.note.toInt = n ∧ x.widx = (s.voice v).widx ∧ x.oidx = (s.voice v).oidx ∧
      x.freq = pitch (s.cfg.voice v) n (s.voice v).oidx.toNat :=
  ⟨_, rfl, toInt_ofInt_note hlo hhi, rfl, rfl, rfl⟩

/-! ### The obligations of the commands: both voices -/

/-- Settles O25: the command is `voice_setwave`, which writes the selector alone; the port shows the waveform of the
state after it. -/
theorem setwaveSelectsTheWaveform : Obligations.SetwaveSelectsTheWaveform := by
  intro s idx h
  refine ⟨rfl, rfl, fun t ht => ?_, fun t ht => ?_⟩
  · obtain rfl : voiceSetWave .one idx s = t := Host.Outcome.next.inj ht
    exact voiceSetWave_selects .one idx h
  · obtain rfl : voiceSetWave .two idx s = t := Host.Outcome.next.inj ht
    exact voiceSetWave_selects .two idx h

/-- Settles O26: `exec_setoct` at each voice; `setVoice` updates that voice's field alone (R110). -/
theorem setoctRecomputesTheFrequency : Obligations.SetoctRecomputesTheFrequency :=
  fun _ idx h => ⟨exec_setoct .one idx h, exec_setoct .two idx h⟩

/-- Settles O27: `exec_setnote` at each voice; `setVoice` updates that voice's field alone (R110). -/
theorem setnoteSetsThePitch : Obligations.SetnoteSetsThePitch :=
  fun s _ hlo hhi => ⟨exec_setnote .one hlo hhi s, exec_setnote .two hlo hhi s⟩

end Sys2Proof.Proofs.VoiceCommands
end

section
/-! PROOFS. The engine family (41_engine.md): `NOP` at the word, the two edges of the envelope, the two knob setters
and the option table. -/

namespace Sys2Proof.Proofs.EngineCommands

open Sys2Proof Sys2Proof.Machine Sys2Proof.Claims
open Sys2Proof.Proofs.StateReset (clamp32_eq_saturated)
open Sys2Proof.Proofs.EncodingWords (decodeWord_of_opcode step_reserved)

/-! ### `NOP` (R140) -/

/-- A step on a word that decodes executes its command (R83 step 4). -/
theorem step_decoded {s : State} {w : Word} {rest : List Event} {i : Instr} (h : s.input = .cmd w :: rest)
    (hw : decodeWord w = .ok i) : step s = exec i (s.beginEvent rest) := by
  rw [step_cons h, runEvent, runCommand_ok hw]

/-- `NOP` has no operand field, so every bit of its payload is reserved (R84). -/
theorem reservedBits_nop (w : Word) : reservedBits .nop w = w.extractLsb' 0 24 := BitVec.and_allOnes

/-- `NOP` decodes with payload 0 only. -/
theorem decodeWord_nop {w : Word} (h : w.extractLsb' 24 8 = 0#8) :
    decodeWord w = if w.extractLsb' 0 24 = 0#24 then .ok .nop else .error .reserved := by
  rw [decodeWord_of_opcode (op := .nop) h, reservedBits_nop, assemble]
  rfl

/-- Settles O15: with payload 0 the word is `NOP`, which answers its state; any other payload has a reserved bit. -/
theorem nopChangesNothing : Obligations.NopChangesNothing := by
  refine ⟨fun _ => rfl, fun s w rest h hop => ?_⟩
  have hw := decodeWord_nop hop
  by_cases hpay : w.extractLsb' 0 24 = 0#24
  · rw [if_pos hpay] at hw ⊢
    exact step_decoded h hw
  · rw [if_neg hpay] at hw ⊢
    exact step_reserved h hw

/-! ### `HIT` and `RELEASE` (R142, R143) -/

/-- In a started engine `HIT` is `do_hit` (R148). -/
theorem exec_hit {s : State} (h : s.run = true) (n : Int) : exec (.hit n) s = .next (doHit n s) := by
  rw [exec, execHit, if_pos h]

/-- In a started engine `RELEASE` is `do_release` (R149). -/
theorem exec_release {s : State} (h : s.run = true) : exec .release s = .next (doRelease s) := by
  rw [exec, execRelease, if_pos h]

/-- R142 asks whether there is no attack, the claims whether there is one: the envelope starts in the first phase of
attack and hold that takes a tick, and in the release where neither does. -/
theorem hit_envState_eq (attack hold : Nat) :
    (if attack = 0 then (if 0 < hold then EnvState.holding else .releasing) else .attacking) =
      if 0 < attack then .attacking else if 0 < hold then .holding else .releasing := by
  rcases Nat.eq_zero_or_pos attack with rfl | hpos
  · rw [if_pos rfl, if_neg (lt_irrefl 0)]
  · rw [if_neg hpos.ne', if_pos hpos]

/-- Settles O20: `do_hit` as one update, with the two tests of `ATTACK` brought to the order of the statement. -/
theorem hitRetargetsPitchAndAttack : Obligations.HitRetargetsPitchAndAttack := by
  intro s n hrun
  rw [exec_hit hrun, doHit_eq, hit_envState_eq, gainOne]
  rfl

/-- `do_release` writes the envelope state alone (R143). -/
theorem doRelease_eq (s : State) :
    doRelease s = { s with
      envState := if s.envState = .attacking ∨ s.envState = .holding then .releasing else s.envState } := by
  rw [← doRelease_envState]
  rfl

/-- Settles O21: the command is `do_release`, which is that one update. -/
theorem releaseOnlyMovesTheEnvelopeState : Obligations.ReleaseOnlyMovesTheEnvelopeState := by
  intro s hrun
  rw [exec_release hrun, doRelease_eq]

/-! ### The knob setters (R144 to R146) -/

/-- The model's `ramp_set` is the claims' `retargeted` (R146). -/
theorem requestRamp_eq_retargeted (ramp : Nat) (new : Hz12) (u : RampUnit) :
    requestRamp ramp new u = retargeted ramp new u := by
  have hact : decide (ramp ≠ 0) = decide (0 < ramp) := decide_eq_decide.mpr Nat.pos_iff_ne_zero.symm
  rw [requestRamp, retargeted, hact]

/-- The linear map of R144, saturated. -/
theorem modTarget_eq_saturated (c : Config) (pos : Nat) :
    modTarget c pos = saturated (c.modMin + c.modStep * pos) :=
  clamp32_eq_saturated _

/-- The quadratic map of R145, its square multiplied out and saturated. -/
theorem filtTarget_eq_saturated (c : Config) (pos : Nat) :
    filtTarget c pos = saturated (c.filtMin + (c.filtStep * pos) * (c.filtStep * pos)) := by
  rw [filtTarget, clamp32_eq_saturated, sq, Nat.cast_mul]

/-- Settles O22: `do_setmod` as one update, its target and its request read as the claims write them. -/
theorem setmodRequestsTheLinearMap : Obligations.SetmodRequestsTheLinearMap := by
  intro s pos
  rw [exec, execSetmod, doSetMod_eq, requestRamp_eq_retargeted, modTarget_eq_saturated]

/-- Settles O23: `do_setfilt` as one update, its target and its request read as the claims write them. -/
theorem setfiltRequestsTheQuadraticMap : Obligations.SetfiltRequestsTheQuadraticMap := by
  intro s pos
  rw [exec, execSetfilt, doSetFilt_eq, requestRamp_eq_retargeted, filtTarget_eq_saturated]

/-! ### The option table (R147) -/

/-- The voice a selector acts on: the first half of the twelve selects on voice 1 (R147). -/
def optionVoice (opt : Nat) : Voice := if opt % 12 < 6 then .one else .two

/-- The band value of a selector, with the second half of the twelve mirrored onto the first (R147). -/
def optionBand (opt : Nat) : Nat := if opt % 12 < 6 then opt % 12 else 11 - opt % 12

theorem optionBand_lt (opt : Nat) : optionBand opt < 6 := by
  unfold optionBand
  split <;> omega

/-- `do_setopt` selects its band value on its voice (R147). -/
theorem doSetOpt_eq_selectBand (opt : Nat) (s : State) :
    doSetOpt opt s = selectBand (optionVoice opt) (optionBand opt) s := by
  unfold doSetOpt optionVoice optionBand
  split <;> rfl

/-- A row of the table names the voice, whether the band value is one of the upper three, which are octaves, and the
position among its three. -/
theorem optionRow_eq : ∀ opt < 16,
    optionRow opt = (optionVoice opt, decide (3 ≤ optionBand opt), optionBand opt % 3) := by
  decide

/-- What a band value selects is what `SETOCT` or `SETWAVE` does with its position (R147). -/
theorem selectBand_eq_exec (v : Voice) {j : Nat} (hj : j < 6) (s : State) :
    (if decide (3 ≤ j) then exec (.setoct v (j % 3)) s else exec (.setwave v (j % 3)) s) =
      .next (selectBand v j s) := by
  rcases lt_or_ge j 3 with hwave | hoct
  · rw [decide_eq_false hwave.not_ge, Nat.mod_eq_of_lt hwave, selectBand, if_pos hwave]
    rfl
  · have hpos : j % 3 = j - 3 := by omega
    rw [decide_eq_true hoct, hpos, selectBand, if_neg hoct.not_gt]
    rfl

/-- Settles O24: both commands select the row's band value on the row's voice. -/
theorem setoptFollowsTheOptionTable : Obligations.SetoptFollowsTheOptionTable := by
  intro s opt hopt
  refine ⟨doSetOpt opt s, rfl, ?_⟩
  rw [optionRow_eq opt hopt, doSetOpt_eq_selectBand]
  exact selectBand_eq_exec _ (optionBand_lt opt) s

end Sys2Proof.Proofs.EngineCommands
end

section
/-! PROOFS. The tick family (42_tick.md): the two ramps, the LFO phase and the two modulated outputs. -/

namespace Sys2Proof.Proofs.TickUnits

open Sys2Proof Sys2Proof.Machine Sys2Proof.Claims
open Sys2Proof.Proofs.StateReset (clamp_eq_min_max)

/-- A counter below its last value counts. -/
theorem toNat_add_one {w : Nat} {x : BitVec w} (h : x.toNat + 1 < 2 ^ w) : (x + 1).toNat = x.toNat + 1 := by
  have hwidth : 1 < 2 ^ w := by omega
  have hone : (1 : BitVec w).toNat = 1 := Nat.mod_eq_of_lt hwidth
  rw [BitVec.toNat_add_of_lt (by rwa [hone]), hone]

/-! ### The ramps (R181) -/

/-- The line of R181 is its start plus the floor of the exact quotient. -/
theorem linearRamp_eq_floor (a b : Int) (k n : Nat) :
    linearRamp a b k n = a + ⌊((b : ℚ) - a) * k / n⌋ := by
  have hfloor := Rat.floor_intCast_div_natCast ((b - a) * k) n
  push_cast at hfloor
  rw [linearRamp, hfloor]

theorem advanceRamp_of_rest {ramp : Nat} {u : RampUnit} (h : u.act = false) : advanceRamp ramp u = u := by
  rw [advanceRamp, h]; rfl

theorem advanceRamp_of_flight {ramp : Nat} {u : RampUnit} (h : u.act = true) :
    advanceRamp ramp u = { u with
      rc := u.rc + 1
      cur := BitVec.ofInt 32 (linearRamp u.start.toNat u.tgt.toNat (u.rc + 1).toNat ramp)
      act := decide ((u.rc + 1).toNat ≠ ramp) } := by
  rw [advanceRamp, if_pos h]

/-- A value on a line between two registers fits a register. -/
theorem toNat_ofInt_linearRamp (a b : Hz12) {k n : Nat} (hn : 0 < n) (hk : k ≤ n) :
    ((BitVec.ofInt 32 (linearRamp a.toNat b.toNat k n)).toNat : Int) = linearRamp a.toNat b.toNat k n := by
  obtain ⟨hlo, hhi⟩ := linearRamp_between (a.toNat : Int) b.toNat hn hk
  have ha : a.toNat < 2 ^ 32 := a.isLt
  have hb : b.toNat < 2 ^ 32 := b.isLt
  exact ofInt_toNat_of_fits 32 (by omega) (by omega)

/-- `ramp_step` moves a unit as R181 says. -/
theorem rampMoved_advanceRamp {ramp : Nat} {u : RampUnit} (hramp : ramp < 2 ^ 16) (h : RampInv ramp u) :
    RampMoved ramp u (advanceRamp ramp u) := by
  cases hact : u.act with
  | false =>
    rw [advanceRamp_of_rest hact]
    exact ⟨rfl, rfl, fun _ => rfl, fun hfly => absurd (hact.symm.trans hfly) Bool.false_ne_true⟩
  | true =>
    obtain ⟨hrc, -⟩ := h.flying hact
    have hcount : (u.rc + 1).toNat = u.rc.toNat + 1 := toNat_add_one (by omega)
    have hcur := toNat_ofInt_linearRamp u.start u.tgt (k := u.rc.toNat + 1) (n := ramp) (by omega) hrc
    rw [advanceRamp_of_flight hact, hcount]
    refine ⟨rfl, rfl, fun hrest => absurd (hrest.symm.trans hact) Bool.false_ne_true,
      fun _ => ⟨hcount, ?_, by simp, fun hend => ?_⟩⟩
    · rw [hcur, linearRamp_eq_floor]
      push_cast
      rfl
    · rw [hend, linearRamp_end _ _ (by omega), BitVec.ofInt_natCast, BitVec.ofNat_toNat, BitVec.setWidth_eq]

/-- Settles O45: a tick writes each unit with `ramp_step`. -/
theorem tickMovesBothRamps : Obligations.TickMovesBothRamps := by
  intro s rest hinv hin
  obtain ⟨-, -, -, -, -, hramp, -⟩ := hinv.cfg_wf.limits
  refine ⟨_, step_tick hin, ?_, ?_⟩
  · rw [tickEvent_modUnit]
    exact rampMoved_advanceRamp hramp hinv.modUnit
  · rw [tickEvent_cutUnit]
    exact rampMoved_advanceRamp hramp hinv.cutUnit

/-! ### The LFO and the cutoff output (R182, R193, R194) -/

/-- Settles O46: the phase is added to modulo its width, so the reduction of `INC` is absorbed. -/
theorem tickAdvancesTheLfoPhase : Obligations.TickAdvancesTheLfoPhase := by
  intro s rest hin
  refine ⟨_, step_tick hin, fun hrun => ?_, fun hrun => ?_⟩
  · rw [tickEvent_ph, tickEvent_modUnit, beginEvent_run, if_pos hrun, BitVec.toNat_add, BitVec.toNat_ofNat,
      lfoIncrement, Nat.mod_mod, Nat.add_mod_mod]
    rfl
  · rw [tickEvent_ph, beginEvent_run, hrun]
    rfl

theorem lfoOut_of_run {s : State} (h : s.run = true) :
    lfoOut s = (s.cfg.depth : Int) * lfoShapeAt s.cfg.lfoShape s.ph.toNat / 2 ^ 15 := by
  rw [lfoOut, if_pos h]

theorem lfoOut_of_not_run {s : State} (h : s.run = false) : lfoOut s = 0 := by
  rw [lfoOut, h]; rfl

/-- The product of a depth with a level of at most `2^15 - 1` on either side of 0 stays within the depth once scaled
by `2^15` (R193). -/
theorem scaled_level_bounds (d : Nat) {l : Int} (hlo : -32767 ≤ l) (hhi : l ≤ 32767) :
    -(d : Int) ≤ d * l / 2 ^ 15 ∧ (d : Int) * l / 2 ^ 15 ≤ d := by
  have hd : (0 : Int) ≤ d := d.cast_nonneg
  constructor
  · exact Int.le_ediv_of_mul_le (by norm_num) (by nlinarith)
  · exact Int.ediv_le_of_le_mul (by norm_num) (by nlinarith)

/-- `LFO_OUT` never exceeds the depth (R193). -/
theorem lfoOut_bounds {s : State} (h : s.cfg.Limits) : -(s.cfg.depth : Int) ≤ lfoOut s ∧ lfoOut s ≤ s.cfg.depth := by
  obtain ⟨-, -, -, -, -, -, -, -, -, -, -, -, hshape⟩ := h
  obtain ⟨hlo, hhi⟩ := Laws.lfoShapeAt_range hshape s.ph.toNat
  cases hrun : s.run with
  | false => rw [lfoOut_of_not_run hrun]; omega
  | true => rw [lfoOut_of_run hrun]; exact scaled_level_bounds s.cfg.depth hlo hhi

/-- Settles O51: the model's integer quotient is the floor over the rationals; with depth 0 the bounds leave only 0. -/
theorem lfoOutputIsTheScaledShape : Obligations.LfoOutputIsTheScaledShape := by
  intro s h
  obtain ⟨hlo, hhi⟩ := lfoOut_bounds h
  refine ⟨fun hrun => ?_, lfoOut_of_not_run, fun hdepth => by omega, hlo, hhi⟩
  rw [lfoOut_of_run hrun]
  exact_mod_cast (Rat.floor_intCast_div_natCast (s.cfg.depth * lfoShapeAt s.cfg.lfoShape s.ph.toNat) (2 ^ 15)).symm

/-- Settles O52: `clamp32` is the saturation, and the port and the two registers show their values as they are. -/
theorem cutoffOutputIsModulatedAndSaturated : Obligations.CutoffOutputIsModulatedAndSaturated := by
  intro s
  refine ⟨?_, rfl, rfl, rfl⟩
  have hcut := clamp32_toNat ((s.cutUnit.cur.toNat : Int) + lfoOut s)
  rw [clamp_eq_min_max _ (by norm_num), ← cutOut] at hcut
  omega

end Sys2Proof.Proofs.TickUnits
end

section
/-! PROOFS. The tick family (42_tick.md): the envelope of one tick. -/

namespace Sys2Proof.Proofs.TickEnvelope

open Sys2Proof Sys2Proof.Machine Sys2Proof.Claims
open Sys2Proof.Proofs.TickUnits (toNat_add_one)

/-! ### The attack line (R183) -/

/-- The gain after `k` of `attack` ticks of an attack that began at gain `e0` (R183). -/
def attackGain (e0 k attack : Nat) : Nat := e0 + (gainOne - e0) * k / attack

theorem attackGain_zero (e0 attack : Nat) : attackGain e0 0 attack = e0 := by
  rw [attackGain, Nat.mul_zero, Nat.zero_div, Nat.add_zero]

/-- Below `ONE` the model's line is the attack line. -/
theorem linearRamp_eq_attackGain {e0 : Nat} (he : e0 ≤ gainOne) (k attack : Nat) :
    linearRamp e0 gainOne k attack = attackGain e0 k attack := by
  rw [linearRamp, attackGain]
  push_cast [he]
  rfl

/-- The line ends at `ONE`. -/
theorem attackGain_end {e0 attack : Nat} (he : e0 ≤ gainOne) (hattack : 0 < attack) :
    attackGain e0 attack attack = gainOne := by
  rw [attackGain, Nat.mul_div_cancel _ hattack, Nat.add_sub_cancel' he]

theorem attackGain_mono (e0 attack : Nat) {k m : Nat} (h : k ≤ m) : attackGain e0 k attack ≤ attackGain e0 m attack :=
  Nat.add_le_add_left (Nat.div_le_div_right (Nat.mul_le_mul_left _ h)) e0

theorem attackGain_le {e0 k attack : Nat} (he : e0 ≤ gainOne) (hattack : 0 < attack) (hk : k ≤ attack) :
    attackGain e0 k attack ≤ gainOne :=
  attackGain_end he hattack ▸ attackGain_mono e0 attack hk

/-! ### The envelope step by the state it finds -/

theorem envStep_of_attacking {s : State} (h : s.envState = .attacking) : envStep s = envAttackStep s := by
  rw [envStep, h]

theorem envStep_of_holding {s : State} (h : s.envState = .holding) : envStep s = envHoldStep s := by
  rw [envStep, h]

theorem envStep_of_releasing {s : State} (h : s.envState = .releasing) : envStep s = envReleaseStep s := by
  rw [envStep, h]

theorem envStep_of_idle {s : State} (h : s.envState = .idle) : envStep s = s := by
  rw [envStep, h]

theorem envAttackStep_env (s : State) :
    (envAttackStep s).env =
      BitVec.ofInt 25 (linearRamp s.envE0.toNat gainOne (s.envCnt + 1).toNat s.cfg.attack) := rfl

theorem envAttackStep_envState (s : State) :
    (envAttackStep s).envState =
      if (s.envCnt + 1).toNat = s.cfg.attack then (if 0 < s.cfg.hold then .holding else .releasing)
      else .attacking := rfl

theorem envHoldStep_envState (s : State) :
    (envHoldStep s).envState =
      if (s.envCnt + 1).toNat = s.cfg.attack + s.cfg.hold then .releasing else .holding := rfl

/-! ### The envelope of a tick -/

/-- In ATTACKING a tick counts and puts the gain on the line, and the last tick of the line leaves the state (R183). -/
theorem tickEvent_of_attacking {s : State} (hstate : s.envState = .attacking) (hcnt : s.envCnt.toNat < s.cfg.attack)
    (hattack : s.cfg.attack < 2 ^ 30) (he : s.envE0.toNat ≤ gainOne) :
    (tickEvent s).envCnt.toNat = s.envCnt.toNat + 1 ∧
    (tickEvent s).env.toNat = attackGain s.envE0.toNat (s.envCnt.toNat + 1) s.cfg.attack ∧
    (tickEvent s).envState =
      if s.envCnt.toNat + 1 = s.cfg.attack then (if 0 < s.cfg.hold then .holding else .releasing)
      else .attacking := by
  obtain ⟨htstate, htenv, htcnt⟩ := tickEvent_envelope s
  have hcount : (s.envCnt + 1).toNat = s.envCnt.toNat + 1 := toNat_add_one (by omega)
  have hgain := attackGain_le he (by omega) (show s.envCnt.toNat + 1 ≤ s.cfg.attack from hcnt)
  rw [htstate, htenv, htcnt, envStep_of_attacking hstate, envAttackStep_envCnt, envAttackStep_env,
    envAttackStep_envState, hcount, linearRamp_eq_attackGain he, BitVec.ofInt_natCast, BitVec.toNat_ofNat]
  exact ⟨rfl, Nat.mod_eq_of_lt (hgain.trans_lt (by decide)), rfl⟩

/-- In HOLDING a tick counts and keeps the gain, and at `ATTACK + HOLD` starts the release (R184). -/
theorem tickEvent_of_holding {s : State} (hstate : s.envState = .holding)
    (hcnt : s.envCnt.toNat < s.cfg.attack + s.cfg.hold) (hlen : s.cfg.attack + s.cfg.hold < 2 ^ 31) :
    (tickEvent s).envCnt.toNat = s.envCnt.toNat + 1 ∧ (tickEvent s).env = s.env ∧
    (tickEvent s).envState =
      if s.envCnt.toNat + 1 = s.cfg.attack + s.cfg.hold then .releasing else .holding := by
  obtain ⟨htstate, htenv, htcnt⟩ := tickEvent_envelope s
  have hcount : (s.envCnt + 1).toNat = s.envCnt.toNat + 1 := toNat_add_one (by omega)
  rw [htstate, htenv, htcnt, envStep_of_holding hstate, envHoldStep_envCnt, envHoldStep_env, envHoldStep_envState,
    hcount]
  exact ⟨rfl, rfl, rfl⟩

/-- With a factor below 1 the product of R186 fits the gain register. -/
theorem decayGain_toNat {c : Config} (hrmul : c.rmul < 2 ^ 32) (g : Gain) :
    (decayGain c g).toNat = g.toNat * c.rmul / 2 ^ 32 := by
  have hle : g.toNat * c.rmul / 2 ^ 32 ≤ g.toNat :=
    Nat.div_le_of_le_mul (by rw [mul_comm]; exact Nat.mul_le_mul_right _ hrmul.le)
  rw [decayGain, BitVec.toNat_ofNat, Nat.mod_eq_of_lt (hle.trans_lt g.isLt)]

/-- The gain decays: the envelope is released, or the release has ended at gain 0 (R185, R186). -/
def Fading (s : State) : Prop := s.envState = .releasing ∨ (s.envState = .idle ∧ s.env = 0)

/-- Once the envelope decays, a tick multiplies the gain by `RMUL / 2^32`, rounded down, and it decays on: the gain 0
of IDLE is a fixed point of the product (R185, R186). -/
theorem tickEvent_of_fading {s : State} (h : Fading s) (hrmul : s.cfg.rmul < 2 ^ 32) :
    (tickEvent s).env.toNat = s.env.toNat * s.cfg.rmul / 2 ^ 32 ∧ Fading (tickEvent s) := by
  obtain ⟨htstate, htenv, -⟩ := tickEvent_envelope s
  rw [Fading, htstate, htenv]
  rcases h with hrel | ⟨hidle, hzero⟩
  · rw [envStep_of_releasing hrel]
    refine ⟨decayGain_toNat hrmul s.env, ?_⟩
    by_cases hend : decayGain s.cfg s.env = 0
    · exact .inr ⟨if_pos hend, hend⟩
    · exact .inl (if_neg hend)
  · rw [envStep_of_idle hidle, hzero]
    exact ⟨by simp, .inr ⟨hidle, rfl⟩⟩

/-! ### The obligations of one tick -/

/-- Settles O47: under the invariant the state before the tick is on the line as well, so the gain cannot fall. -/
theorem tickInAttackFollowsTheLine : Obligations.TickInAttackFollowsTheLine := by
  intro s rest hinv hin hstate
  obtain ⟨-, -, -, ⟨hattack, -⟩, -⟩ := hinv.cfg_wf.limits
  have he := hinv.env.envE0_le
  obtain ⟨hpos, hcnt, hline⟩ := hinv.env.attacking hstate
  rw [linearRamp_eq_attackGain he] at hline
  obtain ⟨htcnt, htenv, htstate⟩ := tickEvent_of_attacking (s := s.beginEvent rest) hstate hcnt hattack he
  refine ⟨_, step_tick hin, htcnt, tickEvent_envE0 _, htenv, ?_, fun hlt => ?_, fun hend => ?_⟩
  · rw [htenv, Int.natCast_inj.mp hline]
    exact attackGain_mono _ _ (Nat.le_succ _)
  · exact htstate.trans (if_neg hlt.ne)
  · exact ⟨htenv.trans (hend ▸ attackGain_end he (hend ▸ hpos)), htstate.trans (if_pos hend)⟩

/-- Settles O48: under the invariant the gain is `ONE` before the tick, which keeps it. -/
theorem tickInHoldCountsToTheRelease : Obligations.TickInHoldCountsToTheRelease := by
  intro s rest hinv hin hstate
  obtain ⟨-, -, -, ⟨hattack, hhold, -⟩, -⟩ := hinv.cfg_wf.limits
  obtain ⟨-, hone, -, hcnt⟩ := hinv.env.holding hstate
  obtain ⟨htcnt, htenv, htstate⟩ :=
    tickEvent_of_holding (s := s.beginEvent rest) hstate hcnt (by rw [beginEvent_cfg]; omega)
  exact ⟨_, step_tick hin, htcnt, tickEvent_envE0 _, (congrArg BitVec.toNat htenv).trans hone, htstate⟩

end Sys2Proof.Proofs.TickEnvelope
end

section
/-! PROOFS. The tick family (42_tick.md): the words of the commands that start a note, and the undisturbed note from
its hit through attack, hold and release (R188). -/

namespace Sys2Proof.Proofs.UndisturbedNote

open Sys2Proof Sys2Proof.Machine Sys2Proof.Claims Sys2Proof.Laws
open Sys2Proof.Proofs.EncodingWords (decodeWord_eq_ok_iff and_rowMask_eq_rowMatch_iff)
open Sys2Proof.Proofs.EngineCommands (step_decoded exec_hit)
open Sys2Proof.Proofs.TickEnvelope

/-! ### The words of a hit -/

/-- A field of a command's word lies in its payload (R80). -/
theorem extractLsb'_encode (i : Instr) {lo len : Nat} (h : lo + len ≤ 24) :
    (encode i).extractLsb' lo len = i.payload.extractLsb' lo len :=
  BitVec.extractLsb'_append_eq_of_add_le h

/-- A word in its row of the opcode table decodes to the command whose operands its fields hold (R83). -/
theorem decodeWord_encode_of_assemble {i : Instr} (hrow : EncodingRow.Statement i)
    (h : assemble i.opcode (encode i) = i) : decodeWord (encode i) = .ok i := by
  obtain ⟨hbyte, hreserved⟩ := (and_rowMask_eq_rowMatch_iff _ _).mp hrow
  exact decodeWord_eq_ok_iff.mpr ⟨_, hbyte, hreserved, h⟩

/-- A signed operand that fits its field is what the field reads as (R82). -/
theorem toInt_ofInt_of_fitsSigned {w : Nat} {x : Int} (h : fitsSigned w x = true) :
    (BitVec.ofInt (w + 1) x).toInt = x := by
  simp only [fitsSigned, Bool.and_eq_true, decide_eq_true_eq, Nat.cast_pow, Nat.cast_ofNat] at h
  exact BitVec.toInt_ofInt_eq_self (Nat.succ_pos w) h.1 h.2

theorem toNat_ofNat_of_fitsUnsigned {w n : Nat} (h : fitsUnsigned w n = true) : (BitVec.ofNat w n).toNat = n := by
  rw [BitVec.toNat_ofNat, Nat.mod_eq_of_lt (of_decide_eq_true h)]

theorem zoneOfCode_zoneCode (z : Zone) : zoneOfCode (zoneCode z).toNat = z := by cases z <;> rfl

theorem decodeWord_encode_hit {n : Int} (h : fitsSigned 7 n = true) :
    decodeWord (encode (.hit n)) = .ok (.hit n) := by
  have hnote : fieldS (encode (.hit n)) 0 8 = n := by
    rw [fieldS, extractLsb'_encode _ (by decide), Instr.payload, BitVec.extractLsb'_append_eq_right]
    exact toInt_ofInt_of_fitsSigned h
  exact decodeWord_encode_of_assemble (EncodingRow.hit n) (congrArg Instr.hit hnote)

theorem decodeWord_encode_ptr {a : Int} {d : Nat} (ha : fitsSigned 11 a = true) (hd : fitsUnsigned 12 d = true) :
    decodeWord (encode (.ptr a d)) = .ok (.ptr a d) := by
  have hangle : fieldS (encode (.ptr a d)) 12 12 = a := by
    rw [fieldS, extractLsb'_encode _ (by decide), Instr.payload, BitVec.extractLsb'_append_eq_left]
    exact toInt_ofInt_of_fitsSigned ha
  have hdist : fieldU (encode (.ptr a d)) 0 12 = d := by
    rw [fieldU, extractLsb'_encode _ (by decide), Instr.payload, BitVec.extractLsb'_append_eq_right]
    exact toNat_ofNat_of_fitsUnsigned hd
  exact decodeWord_encode_of_assemble (EncodingRow.ptr a d) (congrArg₂ Instr.ptr hangle hdist)

theorem decodeWord_encode_ang (z : Zone) {a : Int} (ha : fitsSigned 11 a = true) :
    decodeWord (encode (.ang z a)) = .ok (.ang z a) := by
  have hzone : zoneOfCode (fieldU (encode (.ang z a)) 12 2) = z := by
    rw [fieldU, extractLsb'_encode _ (by decide), Instr.payload, BitVec.extractLsb'_append_eq_of_le (by decide),
      BitVec.extractLsb'_append_eq_right, zoneOfCode_zoneCode]
  have hangle : fieldS (encode (.ang z a)) 0 12 = a := by
    rw [fieldS, extractLsb'_encode _ (by decide), Instr.payload, BitVec.extractLsb'_append_eq_right]
    exact toInt_ofInt_of_fitsSigned ha
  exact decodeWord_encode_of_assemble (EncodingRow.ang z a) (congrArg₂ Instr.ang hzone hangle)

/-- Every command that hits is read back from its word. -/
theorem decodeWord_encode_of_isHit {s : State} {i : Instr} (h : IsHit s i) : decodeWord (encode i) = .ok i := by
  obtain ⟨-, hwf, ⟨n, rfl⟩ | ⟨-, -, a, rfl | ⟨d, rfl, -⟩⟩⟩ := h
  · exact decodeWord_encode_hit hwf
  · exact decodeWord_encode_ang _ hwf
  · obtain ⟨ha, hd⟩ := Bool.and_eq_true_iff.mp hwf
    exact decodeWord_encode_ptr ha hd

/-! ### The hit -/

/-- What the envelope of `t` has from an attack started in `s`, and the registers a note goes on with (R142). -/
structure Attacked (s t : State) : Prop where
  cfg : t.cfg = s.cfg
  input : t.input = s.input
  envState : t.envState = (startAttack s).envState
  env : t.env = (startAttack s).env
  envE0 : t.envE0 = s.env
  envCnt : t.envCnt = 0

theorem attacked_doHit (n : Int) (s : State) : Attacked s (doHit n s) := ⟨rfl, rfl, rfl, rfl, rfl, rfl⟩

theorem attacked_armVisOff {s t : State} (h : Attacked s t) : Attacked s (armVisOff t) :=
  ⟨h.cfg, h.input, h.envState, h.env, h.envE0, h.envCnt⟩

/-- A press in zone OSC of a bound, started engine in PLAY mode starts the attack (R228). -/
theorem attacked_dispatch {s : State} (hrun : s.run = true) (hmode : s.mode = .play) (w : Word) (a : Int) :
    Attacked s (dispatch w .osc a s) := by
  rw [dispatch_play_osc hmode, if_pos hrun]
  exact attacked_armVisOff (attacked_doHit _ s)

/-- `HIT` and both presses start the attack (R148, R228). -/
theorem exec_of_isHit {s : State} {i : Instr} (h : IsHit s i) : ∃ t, exec i s = .next t ∧ Attacked s t := by
  obtain ⟨hrun, -, ⟨n, rfl⟩ | ⟨hbound, hmode, a, rfl | ⟨d, rfl, hzone⟩⟩⟩ := h
  · exact ⟨_, exec_hit hrun n, attacked_doHit n s⟩
  · refine ⟨_, ?_, attacked_dispatch hrun hmode (encode (.ang .osc a)) a⟩
    rw [exec, execAng, if_pos hbound]
  · refine ⟨_, ?_, attacked_dispatch hrun hmode (encode (.ptr a d)) a⟩
    rw [exec, execPtr, if_pos hbound, ← hzone]

/-- The step of a hit starts the attack and leaves the rest of the trace (R83, R142). -/
theorem step_of_isHit {s : State} {i : Instr} {rest : List Event} (h : IsHit s i)
    (hin : s.input = .cmd (encode i) :: rest) :
    ∃ t, step s = .next t ∧ Attacked (s.beginEvent rest) t := by
  obtain ⟨t, hexec, ht⟩ := exec_of_isHit (s := s.beginEvent rest) h
  exact ⟨t, (step_decoded hin (decodeWord_encode_of_isHit h)).trans hexec, ht⟩

/-! ### The phases of a note -/

/-- Where the envelope stands `k` ticks after a hit that found the gain `e0`: on the attack line, held at `ONE`, or
`m` ticks into its decay (R188). -/
inductive NotePhase (e0 k : Nat) (s : State) : Prop
  | attack (hk : k < s.cfg.attack) (hstate : s.envState = .attacking) (hcnt : s.envCnt.toNat = k)
      (hstart : s.envE0.toNat = e0) (hgain : s.env.toNat = attackGain e0 k s.cfg.attack)
  | hold (hlo : s.cfg.attack ≤ k) (hhi : k < s.cfg.attack + s.cfg.hold) (hstate : s.envState = .holding)
      (hcnt : s.envCnt.toNat = k) (hgain : s.env.toNat = gainOne)
  | decay (m : Nat) (hk : k = s.cfg.attack + s.cfg.hold + m) (hfading : Fading s)
      (hfirst : m = 0 → s.envState = .releasing ∧ s.env.toNat = gainOne)
      (hbound : s.env.toNat * (2 ^ 32) ^ m ≤ gainOne * s.cfg.rmul ^ m)

/-- An event's start moves no note. -/
theorem notePhase_beginEvent {e0 k : Nat} {s : State} (rest : List Event) (h : NotePhase e0 k s) :
    NotePhase e0 k (s.beginEvent rest) := by
  cases h with
  | attack hk hstate hcnt hstart hgain => exact .attack hk hstate hcnt hstart hgain
  | hold hlo hhi hstate hcnt hgain => exact .hold hlo hhi hstate hcnt hgain
  | decay m hk hfading hfirst hbound => exact .decay m hk hfading hfirst hbound

/-- The decay begins at `ATTACK + HOLD`, at `ONE`. -/
theorem notePhase_of_released {e0 k : Nat} {s : State} (hk : k = s.cfg.attack + s.cfg.hold)
    (hstate : s.envState = .releasing) (hgain : s.env.toNat = gainOne) : NotePhase e0 k s :=
  .decay 0 hk (.inl hstate) (fun _ => ⟨hstate, hgain⟩) (by rw [hgain, pow_zero, pow_zero])

/-- The attack ends at `ATTACK`, at `ONE`, in the hold or without one in the release (R142, R183). -/
theorem notePhase_of_attacked {e0 k : Nat} {s : State} (hk : k = s.cfg.attack) (hcnt : s.envCnt.toNat = k)
    (hgain : s.env.toNat = gainOne) (hstate : s.envState = if 0 < s.cfg.hold then .holding else .releasing) :
    NotePhase e0 k s := by
  by_cases hhold : 0 < s.cfg.hold
  · exact .hold hk.ge (by omega) (hstate.trans (if_pos hhold)) hcnt hgain
  · exact notePhase_of_released (by omega) (hstate.trans (if_neg hhold)) hgain

/-- The hit itself, at tick 0; without an attack the gain is `ONE` at once (R142). -/
theorem notePhase_of_hit {s t : State} (h : Attacked s t) : NotePhase s.env.toNat 0 t := by
  obtain ⟨hcfg, -, hstate, hgain, hstart, hcnt⟩ := h
  have hzero : t.envCnt.toNat = 0 := by rw [hcnt]; rfl
  rw [startAttack_envState, ← hcfg] at hstate
  rw [startAttack_env, ← hcfg] at hgain
  by_cases hattack : t.cfg.attack = 0
  · rw [if_pos hattack] at hstate hgain
    exact notePhase_of_attacked hattack.symm hzero (by rw [hgain]; rfl) hstate
  · rw [if_neg hattack] at hstate hgain
    exact .attack (by omega) hstate hzero (by rw [hstart]) (by rw [hgain, attackGain_zero])

/-- One floored product by `RMUL / 2^32` keeps a gain under the power that bounds it (R186). -/
theorem decay_bound_succ {g r m : Nat} (h : g * (2 ^ 32) ^ m ≤ gainOne * r ^ m) :
    g * r / 2 ^ 32 * (2 ^ 32) ^ (m + 1) ≤ gainOne * r ^ (m + 1) :=
  calc g * r / 2 ^ 32 * (2 ^ 32) ^ (m + 1) = g * r / 2 ^ 32 * 2 ^ 32 * (2 ^ 32) ^ m := by rw [pow_succ']; ring
    _ ≤ g * r * (2 ^ 32) ^ m := Nat.mul_le_mul_right _ (Nat.div_mul_le_self _ _)
    _ = g * (2 ^ 32) ^ m * r := by ring
    _ ≤ gainOne * r ^ m * r := Nat.mul_le_mul_right _ h
    _ = gainOne * r ^ (m + 1) := by rw [pow_succ, mul_assoc]

/-- Every tick moves the note to its next tick (R183 to R186). -/
theorem notePhase_tickEvent {e0 k : Nat} {s : State} (hlimits : s.cfg.Limits) (he : e0 ≤ gainOne)
    (h : NotePhase e0 k s) : NotePhase e0 (k + 1) (tickEvent s) := by
  obtain ⟨-, -, -, ⟨hattack, hhold, -⟩, ⟨hrmul, -⟩, -⟩ := hlimits
  have hcfg := tickEvent_cfg s
  cases h with
  | attack hk hstate hcnt hstart hgain =>
    obtain ⟨htcnt, htgain, htstate⟩ := tickEvent_of_attacking hstate (hcnt ▸ hk) hattack (hstart ▸ he)
    rw [hcnt] at htcnt htgain htstate
    rw [hstart] at htgain
    by_cases hend : k + 1 = s.cfg.attack
    · rw [if_pos hend] at htstate
      rw [← hend, attackGain_end he (Nat.succ_pos k)] at htgain
      exact notePhase_of_attacked (hcfg ▸ hend) htcnt htgain (hcfg ▸ htstate)
    · rw [if_neg hend] at htstate
      exact .attack (by rw [hcfg]; omega) htstate htcnt (by rw [tickEvent_envE0, hstart]) (hcfg ▸ htgain)
  | hold hlo hhi hstate hcnt hgain =>
    obtain ⟨htcnt, htgain, htstate⟩ := tickEvent_of_holding hstate (hcnt ▸ hhi) (by omega)
    rw [hcnt] at htcnt htstate
    have hone : (tickEvent s).env.toNat = gainOne := htgain ▸ hgain
    by_cases hend : k + 1 = s.cfg.attack + s.cfg.hold
    · rw [if_pos hend] at htstate
      exact notePhase_of_released (hcfg ▸ hend) htstate hone
    · rw [if_neg hend] at htstate
      exact .hold (by rw [hcfg]; omega) (by rw [hcfg]; omega) htstate htcnt hone
  | decay m hk hfading _ hbound =>
    obtain ⟨htgain, htfading⟩ := tickEvent_of_fading hfading hrmul
    refine .decay (m + 1) (by rw [hcfg]; omega) htfading (fun hm => absurd hm (Nat.succ_ne_zero m)) ?_
    rw [htgain, hcfg]
    exact decay_bound_succ hbound

/-- The note begun by a hit in `s` has reached `f` after `k` ticks. -/
structure NoteAt (s : State) (k : Nat) (f : State) : Prop where
  cfg : f.cfg = s.cfg
  phase : NotePhase s.env.toNat k f

theorem noteAt_tick {s f : State} {k : Nat} (hinv : Inv s) (rest : List Event) (h : NoteAt s k f) :
    NoteAt s (k + 1) (tickEvent (f.beginEvent rest)) := by
  obtain ⟨hcfg, hphase⟩ := h
  have hlimits : f.cfg.Limits := hcfg ▸ hinv.cfg_wf.limits
  exact ⟨(tickEvent_cfg _).trans hcfg,
    notePhase_tickEvent hlimits hinv.env.env_le (notePhase_beginEvent rest hphase)⟩

/-- `k` ticks after a hit, with nothing between, the note is in its phase for `k`. -/
theorem runSteps_of_isHit {s : State} {i : Instr} {k : Nat} (hinv : Inv s) (h : IsHit s i)
    (hin : s.input = .cmd (encode i) :: List.replicate k .tick) :
    ∃ f, runSteps (k + 1) s = .next f ∧ NoteAt s k f := by
  obtain ⟨t, hstep, hatt⟩ := step_of_isHit h hin
  have hstart : NoteAt s 0 t := ⟨hatt.cfg, notePhase_of_hit (s := s.beginEvent _) hatt⟩
  have hticks : t.input = List.replicate k .tick ++ [] := by rw [hatt.input, List.append_nil, beginEvent_input]
  obtain ⟨f, hrun, hnote, -⟩ :=
    runSteps_ticks (P := NoteAt s) (fun _ _ rest _ hu _ => noteAt_tick hinv rest hu) hstart [] le_rfl hticks
  exact ⟨f, (runSteps_succ k hstep).trans hrun, hnote⟩

/-! ### What a phase says of the gain and of the state -/

section
variable {e0 k : Nat} {s : State}

/-- The gain is `ONE` from the end of the attack to the end of the hold. -/
theorem gain_eq_one (h : NotePhase e0 k s) (hlo : s.cfg.attack ≤ k) (hhi : k ≤ s.cfg.attack + s.cfg.hold) :
    s.env.toNat = gainOne := by
  cases h with
  | attack hk => omega
  | hold _ _ _ _ hgain => exact hgain
  | decay m hk _ hfirst _ => exact (hfirst (by omega)).2

/-- The gain is on the attack line up to `ATTACK`, where the line meets `ONE`. -/
theorem gain_eq_attackGain (h : NotePhase e0 k s) (he : e0 ≤ gainOne) (hk₁ : 1 ≤ k) (hk : k ≤ s.cfg.attack) :
    s.env.toNat = attackGain e0 k s.cfg.attack := by
  rcases hk.lt_or_eq with hlt | heq
  · cases h with
    | attack _ _ _ _ hgain => exact hgain
    | hold hlo => omega
    | decay m hm => omega
  · rw [gain_eq_one h heq.ge (by omega), ← heq, attackGain_end he hk₁]

theorem state_attacking (h : NotePhase e0 k s) (hk : k < s.cfg.attack) : s.envState = .attacking := by
  cases h with
  | attack _ hstate => exact hstate
  | hold hlo => omega
  | decay m hm => omega

theorem state_holding (h : NotePhase e0 k s) (hlo : s.cfg.attack ≤ k) (hhi : k < s.cfg.attack + s.cfg.hold) :
    s.envState = .holding := by
  cases h with
  | attack hk => omega
  | hold _ _ hstate => exact hstate
  | decay m hm => omega

theorem state_releasing (h : NotePhase e0 k s) (hk : k = s.cfg.attack + s.cfg.hold) : s.envState = .releasing := by
  cases h with
  | attack hlt => omega
  | hold _ hhi => omega
  | decay m hm _ hfirst _ => exact (hfirst (by omega)).1

/-- After `m` ticks of decay the gain is at most `ONE * (RMUL / 2^32)^m`. -/
theorem gain_le_power (h : NotePhase e0 k s) {m : Nat} (hk : k = s.cfg.attack + s.cfg.hold + m) :
    s.env.toNat * (2 ^ 32) ^ m ≤ gainOne * s.cfg.rmul ^ m := by
  cases h with
  | attack hlt => omega
  | hold _ hhi => omega
  | decay m' hm _ _ hbound =>
    obtain rfl : m' = m := by omega
    exact hbound

/-- The factor is below 1, so any tick of decay brings the gain below `ONE`. -/
theorem gain_lt_one (h : NotePhase e0 k s) (hrmul : s.cfg.rmul < 2 ^ 32) (hk : s.cfg.attack + s.cfg.hold < k) :
    s.env.toNat < gainOne := by
  obtain ⟨m, rfl⟩ := Nat.exists_eq_add_of_lt hk
  have hbound := gain_le_power h (Nat.add_assoc _ m 1)
  have hpow : s.cfg.rmul ^ (m + 1) < (2 ^ 32) ^ (m + 1) := Nat.pow_lt_pow_left hrmul (Nat.succ_ne_zero m)
  exact Nat.lt_of_mul_lt_mul_right (hbound.trans_lt (Nat.mul_lt_mul_of_pos_left hpow (by decide)))

end

/-- Settles O57: the hit starts the attack, every tick takes the note to its next phase, and each clause is read off
the phase at `k`. -/
theorem undisturbedNoteFollowsItsEnvelope : Obligations.UndisturbedNoteFollowsItsEnvelope := by
  intro s i k hinv hhit hin
  obtain ⟨-, -, -, -, ⟨hrmul, -⟩, -⟩ := hinv.cfg_wf.limits
  obtain ⟨f, hrun, ⟨hcfg, hphase⟩⟩ := runSteps_of_isHit hinv hhit hin
  rw [← hcfg] at hrmul ⊢
  exact ⟨f, hrun, gain_eq_attackGain hphase hinv.env.env_le, state_attacking hphase, gain_eq_one hphase,
    state_holding hphase, state_releasing hphase, gain_lt_one hphase hrmul, fun _ => gain_le_power hphase⟩

end Sys2Proof.Proofs.UndisturbedNote
end

section
/-! PROOFS. The decoder family (43_decoder.md): the note sectors and the knob segments of an angle, the zones of a
press and the positions of a tilt. -/

namespace Sys2Proof.Proofs.ControlSurface

open Sys2Proof Sys2Proof.Machine Sys2Proof.Claims
open Sys2Proof.Proofs.StateReset (clamp_eq_min_max)

/-! ### The rounding helpers (R7, R9) -/

/-- The model's `ceilDiv` is the ceiling of the exact quotient (R7). -/
theorem ceilDiv_eq_ceil (a : Int) (n : Nat) : ceilDiv a n = ⌈(a : ℚ) / n⌉ :=
  (Rat.ceil_intCast_div_natCast a n).symm

/-- For an even divisor the half step of `roundHalfUp` is a whole number (R9). -/
theorem roundHalfUp_two_mul (p h : Int) : roundHalfUp p (2 * h) = (p + h) / (2 * h) := by
  rw [roundHalfUp, ← mul_add, Int.mul_ediv_mul_of_pos _ _ two_pos]

/-! ### Note sectors (R221)

The sectors and segments are counted by all integers here, so that they cover every angle once without wrapping; the
functions reduce the count modulo 12. -/

theorem noteOf_eq_roundHalfUp (a : Int) : noteOf a = roundHalfUp (a + 1800) 120 % 12 := by
  have hround : roundHalfUp (a + 1800) 120 = (a + 1800 + 60) / 120 := roundHalfUp_two_mul (a + 1800) 60
  rw [noteOf, hround, add_assoc]; rfl

theorem noteOf_of_sector {q a : Int} (hlo : -420 + 120 * q ≤ a) (hhi : a < -300 + 120 * q) :
    noteOf a = q % 12 := by
  have hquot : (a + 1860) / 120 = q + 12 := by omega
  rw [noteOf, hquot, Int.add_emod_right]

theorem exists_sector (a : Int) : ∃ q : Int, -420 + 120 * q ≤ a ∧ a < -300 + 120 * q :=
  ⟨(a + 420) / 120, by omega, by omega⟩

theorem noteOf_add_turn (a : Int) : noteOf (a + 1440) = noteOf a := by
  obtain ⟨q, hlo, hhi⟩ := exists_sector a
  have hnext : noteOf (a + 1440) = (q + 12) % 12 := noteOf_of_sector (by omega) (by omega)
  rw [hnext, noteOf_of_sector hlo hhi, Int.add_emod_right]

/-- Settles O39: the angle lies in one sector `q`, whose note is `q % 12` after `q / 12` turns. -/
theorem noteSectorsAreHalfOpen : Obligations.NoteSectorsAreHalfOpen := by
  intro a
  obtain ⟨q, hlo, hhi⟩ := exists_sector a
  have hnote : noteOf a = q % 12 := noteOf_of_sector hlo hhi
  exact ⟨by omega, by omega, noteOf_add_turn a, noteOf_eq_roundHalfUp a, q / 12, by omega, by omega⟩

/-! ### Knob segments (R222) -/

theorem knobOf_eq_ceil (a : Int) : knobOf a = ⌈((a + 1680 : Int) : ℚ) / 120⌉ % 12 :=
  congrArg (· % 12) (ceilDiv_eq_ceil (a + 1680) 120)

theorem knobOf_of_segment {q a : Int} (hlo : -360 + 120 * q < a) (hhi : a ≤ -240 + 120 * q) :
    knobOf a = q % 12 := by
  have hquot : ceilDiv (a + 1680) 120 = q + 12 := by rw [ceilDiv]; omega
  rw [knobOf, hquot, Int.add_emod_right]

theorem exists_segment (a : Int) : ∃ q : Int, -360 + 120 * q < a ∧ a ≤ -240 + 120 * q :=
  ⟨(a + 359) / 120, by omega, by omega⟩

theorem knobOf_add_turn (a : Int) : knobOf (a + 1440) = knobOf a := by
  obtain ⟨q, hlo, hhi⟩ := exists_segment a
  have hnext : knobOf (a + 1440) = (q + 12) % 12 := knobOf_of_segment (by omega) (by omega)
  rw [hnext, knobOf_of_segment hlo hhi, Int.add_emod_right]

/-- Settles O40: the angle lies in one segment `q`, whose option is `q % 12` after `q / 12` turns. -/
theorem knobSegmentsAreHalfOpen : Obligations.KnobSegmentsAreHalfOpen := by
  intro a
  obtain ⟨q, hlo, hhi⟩ := exists_segment a
  have hknob : knobOf a = q % 12 := knobOf_of_segment hlo hhi
  exact ⟨by omega, by omega, knobOf_add_turn a, knobOf_eq_ceil a, q / 12, by omega, by omega⟩

/-- Settles O41: the first half of segment `k` lies in sector `k`, the second half, from its middle on, in sector
`k + 1`. -/
theorem noteAndKnobDivergeAtBoundaries : Obligations.NoteAndKnobDivergeAtBoundaries := by
  intro k a
  constructor
  · intro hlo hhi
    exact ⟨noteOf_of_sector (by omega) hhi, knobOf_of_segment hlo (by omega)⟩
  · intro hlo hhi
    exact ⟨noteOf_of_sector (by omega) (by omega), knobOf_of_segment (by omega) hhi⟩

/-! ### Zones (R223) -/

/-- Each zone is an interval of products, from its own edge to the edge of the zone inside it. -/
theorem zoneOf_eq_iff (d r : Nat) :
    (zoneOf d r = .toggle ↔ 15 * d ≤ 4 * r) ∧
    (zoneOf d r = .osc ↔ 2 * d ≤ r ∧ 4 * r < 15 * d) ∧
    (zoneOf d r = .modSpeed ↔ 6 * d ≤ 5 * r ∧ r < 2 * d) ∧
    (zoneOf d r = .filtFreq ↔ 5 * r < 6 * d) := by
  unfold zoneOf
  split_ifs <;> simp only [true_iff, false_iff] <;> omega

/-- An edge of a zone, as a ratio and as the product the model compares. -/
theorem edge_le_ratio_iff (m : Nat) {n d : Nat} (r : Nat) (hn : 0 < n) (hd : 0 < d) :
    (m / n : ℚ) ≤ (r : ℚ) / d ↔ m * d ≤ n * r := by
  rw [div_le_div_iff₀ (Nat.cast_pos.mpr hn) (Nat.cast_pos.mpr hd), mul_comm (r : ℚ)]
  exact_mod_cast Iff.rfl

/-- Settles O42: each zone is an interval of products, and its edges are those of the ratio. -/
theorem zonesFollowTheRadialMeasure : Obligations.ZonesFollowTheRadialMeasure := by
  intro d r
  obtain ⟨htoggle, hosc, hmod, hfilt⟩ := zoneOf_eq_iff d r
  refine ⟨fun hd => htoggle.mpr (by omega), fun hd => ?_, fun h => hfilt.mpr (by omega)⟩
  have hinner : (15 / 4 : ℚ) ≤ (r : ℚ) / d ↔ 15 * d ≤ 4 * r := edge_le_ratio_iff 15 r (by decide) hd
  have hmiddle : (2 : ℚ) ≤ (r : ℚ) / d ↔ 2 * d ≤ r := by simpa using edge_le_ratio_iff 2 r one_pos hd
  have houter : (6 / 5 : ℚ) ≤ (r : ℚ) / d ↔ 6 * d ≤ 5 * r := edge_le_ratio_iff 6 r (by decide) hd
  rw [htoggle, hosc, hmod, hfilt]
  simp only [← not_le, hinner, hmiddle, houter, and_self]

/-! ### Tilt positions (R224) -/

theorem tiltPos_eq_roundHalfUp (t : Int) : tiltPos t = roundHalfUp (clamp t 0 360) 30 :=
  (roundHalfUp_two_mul (clamp t 0 360) 15).symm

/-- The position is the one nearest to the clamped angle, a tie going up. -/
theorem tiltPos_nearest (t : Int) :
    30 * tiltPos t - 15 ≤ clamp t 0 360 ∧ clamp t 0 360 < 30 * tiltPos t + 15 := by
  rw [tiltPos]; omega

/-- Settles O43: the position nearest to the clamped angle, which is 0 below the range, 360 above it and the angle
itself inside. -/
theorem tiltPositionRoundsHalfUp : Obligations.TiltPositionRoundsHalfUp := by
  intro t
  obtain ⟨hlo, hhi⟩ := tiltPos_nearest t
  have hclamp : clamp t 0 360 = min (max t 0) 360 := clamp_eq_min_max t (by norm_num)
  refine ⟨by omega, by omega, by omega, by omega, fun h₀ h₁ => ?_⟩
  have hmem : clamp t 0 360 = t := clamp_of_mem h₀ h₁
  rw [hmem] at hlo hhi
  exact ⟨by rw [tiltPos_eq_roundHalfUp, hmem], hlo, hhi⟩

end Sys2Proof.Proofs.ControlSurface
end

section
/-! PROOFS. The encoding family (30_encoding.md): decoding and encoding are inverse to each other, on well-formed
commands and on the words that decode. -/

namespace Sys2Proof.Proofs.EncodeDecode

open Sys2Proof Sys2Proof.Machine Sys2Proof.Claims Sys2Proof.Laws
open Sys2Proof.Proofs.EncodingWords (decodeWord_eq_ok_iff)
open Sys2Proof.Proofs.UndisturbedNote (extractLsb'_encode decodeWord_encode_of_assemble toInt_ofInt_of_fitsSigned
  toNat_ofNat_of_fitsUnsigned zoneOfCode_zoneCode decodeWord_encode_hit decodeWord_encode_ptr decodeWord_encode_ang)

/-! ### From the command to its word and back -/

/-- The field at the low end of a payload is read from the command's word as it was put there. -/
theorem extractLsb'_encode_low {i : Instr} {m n : Nat} {hi : BitVec m} {x : BitVec n} (hlen : m + n = 24)
    (hp : i.payload = (hi ++ x).cast hlen) : (encode i).extractLsb' 0 n = x := by
  rw [extractLsb'_encode i (by omega), hp]
  ext k hk
  simp [BitVec.getLsbD_append, hk]

theorem fieldU_encode {i : Instr} {m n a : Nat} {hi : BitVec m} (hlen : m + n = 24)
    (hp : i.payload = (hi ++ BitVec.ofNat n a).cast hlen) (h : fitsUnsigned n a = true) :
    fieldU (encode i) 0 n = a := by
  rw [fieldU, extractLsb'_encode_low hlen hp, toNat_ofNat_of_fitsUnsigned h]

theorem fieldS_encode {i : Instr} {m n : Nat} {x : Int} {hi : BitVec m} (hlen : m + (n + 1) = 24)
    (hp : i.payload = (hi ++ BitVec.ofInt (n + 1) x).cast hlen) (h : fitsSigned n x = true) :
    fieldS (encode i) 0 (n + 1) = x := by
  rw [fieldS, extractLsb'_encode_low hlen hp, toInt_ofInt_of_fitsSigned h]

/-- Bit 8 of an FV word names its voice (R82). -/
theorem voiceField_encode {i : Instr} {v : Voice} {x : BitVec 8} (hp : i.payload = 0#15 ++ voiceBit v ++ x) :
    voiceField (encode i) = v := by
  rw [voiceField, fieldU, extractLsb'_encode i (by decide), hp, BitVec.extractLsb'_append_eq_of_le (by decide),
    BitVec.extractLsb'_append_eq_right]
  cases v <;> rfl

/-- Every command's word lies in its row of the opcode table (R84). -/
theorem encodingRow (i : Instr) : EncodingRow.Statement i :=
  match i with
  | .nop => EncodingRow.nop
  | .start => EncodingRow.start
  | .bind => EncodingRow.bind
  | .rdreg a => EncodingRow.rdreg a
  | .hit n => EncodingRow.hit n
  | .release => EncodingRow.release
  | .setmod p => EncodingRow.setmod p
  | .setfilt p => EncodingRow.setfilt p
  | .setopt o => EncodingRow.setopt o
  | .setwave v j => EncodingRow.setwave v j
  | .setoct v j => EncodingRow.setoct v j
  | .setnote v n => EncodingRow.setnote v n
  | .geom r => EncodingRow.geom r
  | .ptr a d => EncodingRow.ptr a d
  | .ang z a => EncodingRow.ang z a
  | .tilt f g => EncodingRow.tilt f g
  | .pup => EncodingRow.pup

/-- A command whose fields hold its operands is read back from its word. -/
theorem decodeWord_encode {i : Instr} (h : assemble i.opcode (encode i) = i) : decodeWord (encode i) = .ok i :=
  decodeWord_encode_of_assemble (encodingRow i) h

/-- `TILT` has two signed fields; the forward angle is the upper one (R82). -/
theorem assemble_encode_tilt {f g : Int} (hf : fitsSigned 11 f = true) (hg : fitsSigned 11 g = true) :
    assemble .tilt (encode (.tilt f g)) = .tilt f g := by
  have hfwd : fieldS (encode (.tilt f g)) 12 12 = f := by
    rw [fieldS, extractLsb'_encode _ (by decide), Instr.payload, BitVec.extractLsb'_append_eq_left]
    exact toInt_ofInt_of_fitsSigned hf
  exact congrArg₂ Instr.tilt hfwd (fieldS_encode (m := 12) rfl rfl hg)

/-- Settles O1: the word lies in its command's row, so it decodes to what its fields assemble to, and each field
holds its operand. -/
theorem decodeOfEncodeIsTheCommand : Obligations.DecodeOfEncodeIsTheCommand := by
  intro i h
  cases i with
  | nop | start | bind | release | pup => exact decodeWord_encode rfl
  | hit n => exact decodeWord_encode_hit h
  | ang z a => exact decodeWord_encode_ang z h
  | ptr a d =>
    obtain ⟨ha, hd⟩ := Bool.and_eq_true_iff.mp h
    exact decodeWord_encode_ptr ha hd
  | tilt f g =>
    obtain ⟨hf, hg⟩ := Bool.and_eq_true_iff.mp h
    exact decodeWord_encode (assemble_encode_tilt hf hg)
  | rdreg a =>
    exact decodeWord_encode (congrArg Instr.rdreg (fieldU_encode (m := 16) rfl rfl h))
  | setmod p =>
    exact decodeWord_encode (congrArg Instr.setmod (fieldU_encode (m := 20) rfl rfl h))
  | setfilt p =>
    exact decodeWord_encode (congrArg Instr.setfilt (fieldU_encode (m := 20) rfl rfl h))
  | setopt o =>
    exact decodeWord_encode (congrArg Instr.setopt (fieldU_encode (m := 20) rfl rfl h))
  | setwave v j =>
    exact decodeWord_encode (congrArg₂ Instr.setwave (voiceField_encode rfl) (fieldU_encode (m := 16) rfl rfl h))
  | setoct v j =>
    exact decodeWord_encode (congrArg₂ Instr.setoct (voiceField_encode rfl) (fieldU_encode (m := 16) rfl rfl h))
  | setnote v n =>
    exact decodeWord_encode (congrArg₂ Instr.setnote (voiceField_encode rfl) (fieldS_encode (m := 16) rfl rfl h))
  | geom r =>
    exact decodeWord_encode (congrArg Instr.geom (fieldU_encode (m := 12) rfl rfl h))

/-! ### From the word to its command and back -/

theorem fitsUnsigned_fieldU (w : Word) (lo len : Nat) : fitsUnsigned len (fieldU w lo len) = true :=
  decide_eq_true (w.extractLsb' lo len).isLt

theorem fitsSigned_fieldS (w : Word) (lo len : Nat) : fitsSigned len (fieldS w lo (len + 1)) = true := by
  have hlo := BitVec.le_toInt (w.extractLsb' lo (len + 1))
  have hhi := BitVec.toInt_lt (x := w.extractLsb' lo (len + 1))
  simp only [fitsSigned, fieldS, Bool.and_eq_true, decide_eq_true_eq, Nat.cast_pow, Nat.cast_ofNat]
  exact ⟨hlo, hhi⟩

/-- What the decoder assembles is well formed: an operand is read from its field (R82). -/
theorem wellFormed_assemble (op : Opcode) (w : Word) : (assemble op w).wellFormed = true := by
  cases op with
  | nop | start | bind | release | pup => rfl
  | rdreg | setmod | setfilt | setopt | setwave | setoct | geom => exact fitsUnsigned_fieldU w _ _
  | hit | setnote | ang => exact fitsSigned_fieldS w _ _
  | ptr => exact Bool.and_eq_true_iff.mpr ⟨fitsSigned_fieldS w _ _, fitsUnsigned_fieldU w _ _⟩
  | tilt => exact Bool.and_eq_true_iff.mpr ⟨fitsSigned_fieldS w _ _, fitsSigned_fieldS w _ _⟩

/-- Where the fields are the low `n` bits, no reserved bit set means that the payload is those bits (R84). -/
theorem payload_eq_zero_append {op : Opcode} {w : Word} {m n : Nat} (hlen : m + n = 24)
    (hmask : fieldMask op = (0#m ++ BitVec.allOnes n).cast hlen) (h : reservedBits op w = 0) :
    w.extractLsb' 0 24 = (0#m ++ w.extractLsb' 0 n).cast hlen := by
  rw [reservedBits, hmask] at h
  ext k hk
  have hbit := congrArg (·[k]) h
  by_cases hkn : k < n
  · simp [BitVec.getElem_append, hkn]
  · simpa [BitVec.getElem_append, hkn] using hbit

/-- Two neighbouring fields of a word. -/
theorem extractLsb'_append_neighbour (w : Word) (n m : Nat) :
    (w.extractLsb' n m ++ w.extractLsb' 0 n : BitVec (m + n)) = w.extractLsb' 0 (m + n) := by
  ext k hk
  by_cases hkn : k < n
  · simp [BitVec.getElem_append, hkn]
  · have hsum : n + (k - n) = k := by omega
    simp [BitVec.getElem_append, hkn, hsum]

@[simp] theorem ofNat_fieldU (w : Word) (lo len : Nat) : BitVec.ofNat len (fieldU w lo len) = w.extractLsb' lo len := by
  rw [fieldU, BitVec.ofNat_toNat, BitVec.setWidth_eq]

@[simp] theorem ofInt_fieldS (w : Word) (lo len : Nat) : BitVec.ofInt len (fieldS w lo len) = w.extractLsb' lo len :=
  BitVec.ofInt_toInt

@[simp] theorem voiceBit_voiceField (w : Word) : voiceBit (voiceField w) = w.extractLsb' 8 1 := by
  rw [voiceField, fieldU]
  generalize w.extractLsb' 8 1 = b
  revert b
  decide

@[simp] theorem zoneCode_zoneOfCode (w : Word) : zoneCode (zoneOfCode (fieldU w 12 2)) = w.extractLsb' 12 2 := by
  rw [fieldU]
  generalize w.extractLsb' 12 2 = b
  revert b
  decide

/-- The two fields of an FV or FZ payload, above reserved bits that are 0. -/
theorem zero_append_fields (w : Word) (k n m : Nat) :
    (0#k ++ w.extractLsb' n m ++ w.extractLsb' 0 n : BitVec (k + m + n)) =
      (0#k ++ w.extractLsb' 0 (m + n)).cast (Nat.add_assoc k m n).symm := by
  rw [BitVec.append_assoc, extractLsb'_append_neighbour]

/-- With no reserved bit set the command's payload is the word's (R84, R87). -/
theorem payload_assemble {op : Opcode} {w : Word} (h : reservedBits op w = 0) :
    (assemble op w).payload = w.extractLsb' 0 24 := by
  cases op with
  | nop | start | bind | release | pup => exact h.symm.trans BitVec.and_allOnes
  | rdreg =>
    rw [payload_eq_zero_append (m := 16) (n := 8) rfl (by decide) h, assemble, Instr.payload, ofNat_fieldU]
    rfl
  | hit =>
    rw [payload_eq_zero_append (m := 16) (n := 8) rfl (by decide) h, assemble, Instr.payload, ofInt_fieldS]
    rfl
  | setmod | setfilt | setopt =>
    rw [payload_eq_zero_append (m := 20) (n := 4) rfl (by decide) h, assemble, Instr.payload, ofNat_fieldU]
    rfl
  | setwave | setoct =>
    rw [payload_eq_zero_append (m := 15) (n := 9) rfl (by decide) h, assemble, Instr.payload, ofNat_fieldU,
      voiceBit_voiceField]
    exact zero_append_fields w 15 8 1
  | setnote =>
    rw [payload_eq_zero_append (m := 15) (n := 9) rfl (by decide) h, assemble, Instr.payload, ofInt_fieldS,
      voiceBit_voiceField]
    exact zero_append_fields w 15 8 1
  | geom =>
    rw [payload_eq_zero_append (m := 12) (n := 12) rfl (by decide) h, assemble, Instr.payload, ofNat_fieldU]
    rfl
  | ang =>
    rw [payload_eq_zero_append (m := 10) (n := 14) rfl (by decide) h, assemble, Instr.payload, ofInt_fieldS,
      zoneCode_zoneOfCode]
    exact zero_append_fields w 10 12 2
  | ptr =>
    rw [assemble, Instr.payload, ofInt_fieldS, ofNat_fieldU]
    exact extractLsb'_append_neighbour w 12 12
  | tilt =>
    rw [assemble, Instr.payload, ofInt_fieldS, ofInt_fieldS]
    exact extractLsb'_append_neighbour w 12 12

theorem opcode_assemble (op : Opcode) (w : Word) : (assemble op w).opcode = op := by cases op <;> rfl

/-- Settles O2: the word is its opcode byte and its payload, and the command has both. -/
theorem encodeOfDecodeIsTheWord : Obligations.EncodeOfDecodeIsTheWord := by
  intro w i h
  obtain ⟨op, hbyte, hr, rfl⟩ := decodeWord_eq_ok_iff.mp h
  refine ⟨?_, wellFormed_assemble op w⟩
  rw [encode, opcode_assemble, payload_assemble hr, ← hbyte]
  exact extractLsb'_append_neighbour w 24 8 |>.trans BitVec.extractLsb'_eq_self

/-- Settles O4: every listed word is the encoding of its command and reads back as it. -/
theorem specWordsDecode : Obligations.SpecWordsDecode := by
  unfold Obligations.SpecWordsDecode
  decide

end Sys2Proof.Proofs.EncodeDecode
end

section
/-! PROOFS. The invariant of DVE after reset (70_reset_and_hazards.md R300) and through every command: for each
operation the part of the invariant that speaks of what it writes; the other parts read registers it keeps. -/

namespace Sys2Proof.Proofs.InvariantCommands

open Sys2Proof Sys2Proof.Machine Sys2Proof.Claims
open Sys2Proof.Proofs.VoiceCommands (limits_voice toNat_ofNat_mod toInt_ofInt_note)
open Sys2Proof.Proofs.ControlSurface (tiltPositionRoundsHalfUp)
open Sys2Proof.Proofs.EncodeDecode (encodeOfDecodeIsTheWord)

/-! ### The registers each part of the invariant reads -/

def unitRegisters (s : State) : VoiceState × VoiceState × RampUnit × RampUnit :=
  (s.voice1, s.voice2, s.modUnit, s.cutUnit)

def envRegisters (s : State) : Config × EnvState × Gain × Gain × BitVec 31 :=
  (s.cfg, s.envState, s.env, s.envE0, s.envCnt)

def faultRegisters (s : State) : Bool × BitVec 4 × Word := (s.fault, s.fcode, s.fcmd)

def startRegisters (s : State) : Bool × EnvState × Bool × BitVec 32 := (s.run, s.envState, s.visPend, s.ph)

def timerRegisters (s : State) : Config × BitVec 32 × Bool := (s.cfg, s.vis, s.visPend)

def knobRegisters (s : State) : Config × BitVec 4 × BitVec 4 × Hz12 × Hz12 :=
  (s.cfg, s.modPos, s.filtPos, s.modUnit.tgt, s.cutUnit.tgt)

section
variable {s t : State}

theorem envInv_congr (hs : EnvInv s) (h : envRegisters t = envRegisters s) : EnvInv t := by
  simp only [envRegisters, Prod.mk.injEq] at h
  obtain ⟨hcfg, hstate, henv, he0, hcnt⟩ := h
  obtain ⟨h₁, h₂, h₃, h₄, h₅, h₆⟩ := hs
  constructor <;> simp only [hcfg, hstate, henv, he0, hcnt] <;> assumption

theorem faultInv_congr (hs : FaultInv s) (h : faultRegisters t = faultRegisters s) : FaultInv t := by
  simp only [faultRegisters, Prod.mk.injEq] at h
  obtain ⟨hfault, hcode, hcmd⟩ := h
  obtain ⟨h₁, h₂⟩ := hs
  constructor <;> simp only [hfault, hcode, hcmd] <;> assumption

theorem notStartedInv_congr (hs : NotStartedInv s) (h : startRegisters t = startRegisters s) : NotStartedInv t := by
  simp only [startRegisters, Prod.mk.injEq] at h
  obtain ⟨hrun, hstate, hpend, hph⟩ := h
  obtain ⟨h₁, h₂, h₃⟩ := hs
  constructor <;> simp only [hrun, hstate, hpend, hph] <;> assumption

theorem timerInv_congr (hs : TimerInv s) (h : timerRegisters t = timerRegisters s) : TimerInv t := by
  simp only [timerRegisters, Prod.mk.injEq] at h
  obtain ⟨hcfg, hvis, hpend⟩ := h
  obtain ⟨h₁, h₂⟩ := hs
  constructor <;> simp only [hcfg, hvis, hpend] <;> assumption

theorem knobInv_congr (hs : KnobInv s) (h : knobRegisters t = knobRegisters s) : KnobInv t := by
  simp only [knobRegisters, Prod.mk.injEq] at h
  obtain ⟨hcfg, hmod, hfilt, hmodTgt, hcutTgt⟩ := h
  obtain ⟨h₁, h₂⟩ := hs
  constructor <;> simp only [hcfg, hmod, hfilt, hmodTgt, hcutTgt] <;> assumption

/-- A started engine owes nothing to the part about the time before `START`. -/
theorem notStartedInv_of_run (h : s.run = true) : NotStartedInv s := by
  constructor <;> intro hrun <;> exact absurd (hrun.symm.trans h) Bool.false_ne_true

end

/-! ### The operations -/

section
variable {s : State}

/-- A state that differs at most in registers the invariant does not read. -/
theorem inv_congr {t : State} (h : Inv s) (hunits : unitRegisters t = unitRegisters s)
    (henv : envRegisters t = envRegisters s) (hfault : faultRegisters t = faultRegisters s)
    (hstart : startRegisters t = startRegisters s) (htimer : timerRegisters t = timerRegisters s)
    (hknobs : knobRegisters t = knobRegisters s) : Inv t := by
  have hcfg : t.cfg = s.cfg := congrArg Prod.fst henv
  simp only [unitRegisters, Prod.mk.injEq] at hunits
  obtain ⟨hv₁, hv₂, hmod, hcut⟩ := hunits
  exact ⟨hcfg ▸ h.cfg_wf, hcfg ▸ hv₁ ▸ h.voice1, hcfg ▸ hv₂ ▸ h.voice2, hcfg ▸ hmod ▸ h.modUnit,
    hcfg ▸ hcut ▸ h.cutUnit, envInv_congr h.env henv, faultInv_congr h.fault hfault,
    notStartedInv_congr h.notStarted hstart, timerInv_congr h.timer htimer, knobInv_congr h.knobs hknobs⟩

theorem inv_beginEvent (h : Inv s) (rest : List Event) : Inv (s.beginEvent rest) :=
  inv_congr h rfl rfl rfl rfl rfl rfl

theorem inv_toggleMode (h : Inv s) : Inv (toggleMode s) := inv_congr h rfl rfl rfl rfl rfl rfl

theorem inv_run (h : Inv s) : Inv { s with run := true } :=
  ⟨h.cfg_wf, h.voice1, h.voice2, h.modUnit, h.cutUnit, envInv_congr h.env rfl, faultInv_congr h.fault rfl,
    notStartedInv_of_run rfl, timerInv_congr h.timer rfl, knobInv_congr h.knobs rfl⟩

/-- The record of a fault holds one of the seven codes (R271). -/
theorem inv_raiseFault (h : Inv s) (c : FaultCode) (w : Word) : Inv (raiseFault c w s) := by
  cases hf : s.fault with
  | true => rwa [raiseFault_of_set hf]
  | false =>
    rw [raiseFault_of_clear hf]
    exact ⟨h.cfg_wf, h.voice1, h.voice2, h.modUnit, h.cutUnit, envInv_congr h.env rfl,
      ⟨fun hclear => absurd hclear Bool.true_eq_false_eq_False, fun _ => faultNumber_range c⟩,
      notStartedInv_congr h.notStarted rfl, timerInv_congr h.timer rfl, knobInv_congr h.knobs rfl⟩

theorem voiceInv_voice (h : Inv s) (v : Voice) : VoiceInv (s.cfg.voice v) (s.voice v) := by
  cases v with
  | one => exact h.voice1
  | two => exact h.voice2

theorem inv_setVoice (h : Inv s) {v : Voice} {x : VoiceState} (hx : VoiceInv (s.cfg.voice v) x) :
    Inv (s.setVoice v x) := by
  cases v with
  | one =>
    exact ⟨h.cfg_wf, hx, h.voice2, h.modUnit, h.cutUnit, envInv_congr h.env rfl, faultInv_congr h.fault rfl,
      notStartedInv_congr h.notStarted rfl, timerInv_congr h.timer rfl, knobInv_congr h.knobs rfl⟩
  | two =>
    exact ⟨h.cfg_wf, h.voice1, hx, h.modUnit, h.cutUnit, envInv_congr h.env rfl, faultInv_congr h.fault rfl,
      notStartedInv_congr h.notStarted rfl, timerInv_congr h.timer rfl, knobInv_congr h.knobs rfl⟩

/-- The selector is reduced modulo the set's length (R114). -/
theorem inv_voiceSetWave (h : Inv s) (v : Voice) (idx : Nat) : Inv (voiceSetWave v idx s) := by
  obtain ⟨hne, hle, -⟩ := limits_voice h.cfg_wf.limits v
  obtain ⟨-, hoidx, hfreq⟩ := voiceInv_voice h v
  exact inv_setVoice h ⟨(toNat_ofNat_mod idx hne hle).trans_lt (Nat.mod_lt idx hne), hoidx, hfreq⟩

/-- The frequency is computed anew with the selector (R115). -/
theorem inv_voiceSetOct (h : Inv s) (v : Voice) (idx : Nat) : Inv (voiceSetOct v idx s) := by
  obtain ⟨-, -, hne, hle, -⟩ := limits_voice h.cfg_wf.limits v
  obtain ⟨hwidx, -, -⟩ := voiceInv_voice h v
  have hidx := toNat_ofNat_mod idx hne hle
  exact inv_setVoice h ⟨hwidx, hidx.trans_lt (Nat.mod_lt idx hne), congrArg (pitch _ _) hidx.symm⟩

/-- A note its register holds is the note the frequency is computed from (R116). -/
theorem inv_voiceSetNote (h : Inv s) (v : Voice) {n : Int} (hlo : -128 ≤ n) (hhi : n ≤ 127) :
    Inv (voiceSetNote v n s) := by
  obtain ⟨hwidx, hoidx, -⟩ := voiceInv_voice h v
  exact inv_setVoice h ⟨hwidx, hoidx, congrArg (pitch _ · _) (toInt_ofInt_note hlo hhi).symm⟩

theorem inv_doSetOpt (h : Inv s) (opt : Nat) : Inv (doSetOpt opt s) := by
  rcases doSetOpt_cases opt s with ⟨v, j, heq⟩ | ⟨v, j, heq⟩ <;> rw [heq]
  · exact inv_voiceSetWave h v j
  · exact inv_voiceSetOct h v j

/-! What the invariant asks of the envelope in each of its states (R31): in the others it asks nothing. -/

theorem envInv_of_idle (hstate : s.envState = .idle) (hgain : s.env = 0) (he0 : s.envE0.toNat ≤ gainOne)
    (hcnt : s.envCnt.toNat ≤ s.cfg.attack + s.cfg.hold) : EnvInv s where
  env_le := by rw [hgain]; exact Nat.zero_le _
  envE0_le := he0
  envCnt_le := hcnt
  idle _ := hgain
  attacking h := nomatch h.symm.trans hstate
  holding h := nomatch h.symm.trans hstate

theorem envInv_of_attacking (hstate : s.envState = .attacking) (he0 : s.envE0.toNat ≤ gainOne)
    (hcnt : s.envCnt.toNat < s.cfg.attack)
    (hline : (s.env.toNat : Int) = linearRamp s.envE0.toNat gainOne s.envCnt.toNat s.cfg.attack) : EnvInv s where
  env_le := by
    obtain ⟨-, hle⟩ := linearRamp_between (s.envE0.toNat : Int) gainOne (by omega) hcnt.le
    omega
  envE0_le := he0
  envCnt_le := by omega
  idle h := nomatch h.symm.trans hstate
  attacking _ := ⟨by omega, hcnt, hline⟩
  holding h := nomatch h.symm.trans hstate

theorem envInv_of_holding (hstate : s.envState = .holding) (he0 : s.envE0.toNat ≤ gainOne)
    (hgain : s.env.toNat = gainOne) (hlo : s.cfg.attack ≤ s.envCnt.toNat)
    (hhi : s.envCnt.toNat < s.cfg.attack + s.cfg.hold) : EnvInv s where
  env_le := hgain.le
  envE0_le := he0
  envCnt_le := hhi.le
  idle h := nomatch h.symm.trans hstate
  attacking h := nomatch h.symm.trans hstate
  holding _ := ⟨by omega, hgain, hlo, hhi⟩

theorem envInv_of_releasing (hstate : s.envState = .releasing) (hgain : s.env.toNat ≤ gainOne)
    (he0 : s.envE0.toNat ≤ gainOne) (hcnt : s.envCnt.toNat ≤ s.cfg.attack + s.cfg.hold) : EnvInv s where
  env_le := hgain
  envE0_le := he0
  envCnt_le := hcnt
  idle h := nomatch h.symm.trans hstate
  attacking h := nomatch h.symm.trans hstate
  holding h := nomatch h.symm.trans hstate

/-- An attack begins on its line; without one the gain is `ONE` at once, in the hold or else in the release (R142). -/
theorem envInv_startAttack (h : EnvInv s) : EnvInv (startAttack s) := by
  have hstate := startAttack_envState s
  have hgain := startAttack_env s
  by_cases hattack : s.cfg.attack = 0
  · rw [if_pos hattack] at hstate hgain
    have hone : (startAttack s).env.toNat = gainOne := by rw [hgain]; rfl
    by_cases hhold : 0 < s.cfg.hold
    · rw [if_pos hhold] at hstate
      exact envInv_of_holding hstate h.env_le hone hattack.le (Nat.add_pos_right _ hhold)
    · rw [if_neg hhold] at hstate
      exact envInv_of_releasing hstate hone.le h.env_le (Nat.zero_le _)
  · rw [if_neg hattack] at hstate hgain
    refine envInv_of_attacking hstate h.env_le (Nat.pos_of_ne_zero hattack) ?_
    rw [hgain, startAttack_envE0]
    exact (linearRamp_zero _ _ _).symm

theorem inv_startAttack (h : Inv s) (hrun : s.run = true) : Inv (startAttack s) :=
  ⟨h.cfg_wf, h.voice1, h.voice2, h.modUnit, h.cutUnit, envInv_startAttack h.env, faultInv_congr h.fault rfl,
    notStartedInv_of_run hrun, timerInv_congr h.timer rfl, knobInv_congr h.knobs rfl⟩

theorem inv_doHit (h : Inv s) (hrun : s.run = true) {n : Int} (hlo : -128 ≤ n) (hhi : n ≤ 127) :
    Inv (doHit n s) :=
  inv_startAttack (inv_voiceSetNote (inv_voiceSetNote h .one hlo hhi) .two hlo hhi) hrun

/-- `NOTELEN` fits its register (R5, R32). -/
theorem toNat_ofNat_noteLen {c : Config} (h : c.Limits) : (BitVec.ofNat 32 (noteLen c)).toNat = noteLen c := by
  obtain ⟨-, -, -, ⟨hattack, hhold, hrelease⟩, -⟩ := h
  rw [BitVec.toNat_ofNat, noteLen, Nat.mod_eq_of_lt (by omega)]

theorem inv_armVisOff (h : Inv s) (hrun : s.run = true) : Inv (armVisOff s) :=
  ⟨h.cfg_wf, h.voice1, h.voice2, h.modUnit, h.cutUnit, envInv_congr h.env rfl, faultInv_congr h.fault rfl,
    notStartedInv_of_run hrun,
    ⟨(toNat_ofNat_noteLen h.cfg_wf.limits).le, fun hclear => absurd hclear Bool.true_eq_false_eq_False⟩,
    knobInv_congr h.knobs rfl⟩

/-- A release leaves the gain, the counter and the start of the line; RELEASING asks nothing of them (R143). -/
theorem envInv_doRelease (h : EnvInv s) : EnvInv (doRelease s) := by
  have hstate := doRelease_envState s
  split_ifs at hstate with hsounds
  · exact envInv_of_releasing hstate h.env_le h.envE0_le h.envCnt_le
  · exact envInv_congr h (by rw [envRegisters, hstate]; rfl)

theorem inv_doRelease (h : Inv s) (hrun : s.run = true) : Inv (doRelease s) :=
  ⟨h.cfg_wf, h.voice1, h.voice2, h.modUnit, h.cutUnit, envInv_doRelease h.env, faultInv_congr h.fault rfl,
    notStartedInv_of_run hrun, timerInv_congr h.timer rfl, knobInv_congr h.knobs rfl⟩

/-- A request starts a line at the value reached, or is at its target at once (R146). -/
theorem rampInv_requestRamp (ramp : Nat) (new : Hz12) (u : RampUnit) : RampInv ramp (requestRamp ramp new u) := by
  by_cases hramp : ramp = 0
  · constructor <;> simp [requestRamp, hramp]
  · constructor <;> simp [requestRamp, hramp, linearRamp_zero, Nat.pos_of_ne_zero]

theorem inv_doSetMod (h : Inv s) {pos : Nat} (hpos : pos < 16) : Inv (doSetMod pos s) := by
  have hheld : (BitVec.ofNat 4 pos).toNat = pos := Nat.mod_eq_of_lt hpos
  exact ⟨h.cfg_wf, h.voice1, h.voice2, rampInv_requestRamp _ _ _, h.cutUnit, envInv_congr h.env rfl,
    faultInv_congr h.fault rfl, notStartedInv_congr h.notStarted rfl, timerInv_congr h.timer rfl,
    ⟨congrArg (modTarget s.cfg) hheld.symm, h.knobs.cut_tgt⟩⟩

theorem inv_doSetFilt (h : Inv s) {pos : Nat} (hpos : pos < 16) : Inv (doSetFilt pos s) := by
  have hheld : (BitVec.ofNat 4 pos).toNat = pos := Nat.mod_eq_of_lt hpos
  exact ⟨h.cfg_wf, h.voice1, h.voice2, h.modUnit, rampInv_requestRamp _ _ _, envInv_congr h.env rfl,
    faultInv_congr h.fault rfl, notStartedInv_congr h.notStarted rfl, timerInv_congr h.timer rfl,
    ⟨h.knobs.mod_tgt, congrArg (filtTarget s.cfg) hheld.symm⟩⟩

/-- A sector is a note that its register holds and a position that its register holds (R221). -/
theorem noteOf_bounds (a : Int) : 0 ≤ noteOf a ∧ noteOf a < 12 := by
  rw [noteOf]
  omega

theorem tiltPos_bounds (t : Int) : 0 ≤ tiltPos t ∧ tiltPos t ≤ 12 := by
  obtain ⟨hlo, hhi, -⟩ := tiltPositionRoundsHalfUp t
  exact ⟨hlo, hhi⟩

/-- Whatever a press does (R228). -/
theorem inv_dispatch (h : Inv s) (w : Word) (z : Zone) (a : Int) : Inv (dispatch w z a s) := by
  obtain ⟨hlo, hhi⟩ := noteOf_bounds a
  rcases dispatch_cases w z a s with heq | heq | ⟨hrun, heq⟩ | ⟨-, heq⟩ | heq | heq <;> rw [heq]
  · exact inv_toggleMode h
  · exact inv_doSetOpt h _
  · exact inv_armVisOff (inv_doHit h hrun (by omega) (by omega)) hrun
  · exact inv_raiseFault h _ w
  · exact inv_doSetMod h (by omega)
  · exact inv_doSetFilt h (by omega)

/-! ### The commands -/

/-- A signed operand of a field is in the field's range (R82). -/
theorem note_bounds {n : Int} (h : fitsSigned 7 n = true) : -128 ≤ n ∧ n ≤ 127 := by
  simp only [fitsSigned, Bool.and_eq_true, decide_eq_true_eq] at h
  omega

theorem pos_lt {p : Nat} (h : fitsUnsigned 4 p = true) : p < 16 := of_decide_eq_true h

/-- Every well-formed command keeps the invariant. -/
theorem inv_exec {i : Instr} {t : State} (h : Inv s) (hwf : i.wellFormed = true) (hexec : exec i s = .next t) :
    Inv t := by
  cases i with
  | nop => cases hexec; exact h
  | start =>
    obtain rfl := Host.Outcome.next.inj hexec
    split
    · exact inv_raiseFault h _ _
    · exact inv_run h
  | bind =>
    obtain rfl := Host.Outcome.next.inj hexec
    split
    · exact inv_raiseFault h _ _
    · exact inv_congr h rfl rfl rfl rfl rfl rfl
  | rdreg a =>
    obtain rfl := Host.Outcome.next.inj hexec
    split
    · exact inv_congr h rfl rfl rfl rfl rfl rfl
    · exact inv_raiseFault (s := { s with rdata := 0 }) (inv_congr h rfl rfl rfl rfl rfl rfl) _ _
  | hit n =>
    obtain rfl := Host.Outcome.next.inj hexec
    obtain ⟨hlo, hhi⟩ := note_bounds hwf
    split
    next hrun => exact inv_doHit h hrun hlo hhi
    next => exact inv_raiseFault h _ _
  | release =>
    obtain rfl := Host.Outcome.next.inj hexec
    split
    next hrun => exact inv_doRelease h hrun
    next => exact inv_raiseFault h _ _
  | setmod p => cases hexec; exact inv_doSetMod h (pos_lt hwf)
  | setfilt p => cases hexec; exact inv_doSetFilt h (pos_lt hwf)
  | setopt o => cases hexec; exact inv_doSetOpt h o
  | setwave v j => cases hexec; exact inv_voiceSetWave h v j
  | setoct v j => cases hexec; exact inv_voiceSetOct h v j
  | setnote v n =>
    obtain ⟨hlo, hhi⟩ := note_bounds hwf
    cases hexec
    exact inv_voiceSetNote h v hlo hhi
  | geom r => cases hexec; exact inv_congr h rfl rfl rfl rfl rfl rfl
  | ptr a d =>
    obtain rfl := Host.Outcome.next.inj hexec
    split
    · exact inv_dispatch h _ _ a
    · exact inv_raiseFault h _ _
  | ang z a =>
    obtain rfl := Host.Outcome.next.inj hexec
    split
    · exact inv_dispatch h _ z a
    · exact inv_raiseFault h _ _
  | tilt f g =>
    obtain rfl := Host.Outcome.next.inj hexec
    obtain ⟨-, hf⟩ := tiltPos_bounds f
    obtain ⟨-, hg⟩ := tiltPos_bounds g
    split
    · cases s.mode with
      | play => exact inv_doSetFilt (inv_doSetMod h (by omega)) (by omega)
      | edit => exact h
    · exact inv_raiseFault h _ _
  | pup =>
    obtain rfl := Host.Outcome.next.inj hexec
    split
    · cases s.mode with
      | play =>
        dsimp only
        split
        next hrun => exact inv_doRelease h hrun
        next => exact inv_raiseFault h _ _
      | edit => exact h
    · exact inv_raiseFault h _ _

/-- A word that decodes runs a well-formed command; any other faults (R83). -/
theorem inv_runCommand {w : Word} {t : State} (h : Inv s) (hrun : runCommand w s = .next t) : Inv t := by
  cases hw : decodeWord w with
  | ok i =>
    obtain ⟨-, hwf⟩ := encodeOfDecodeIsTheWord w i hw
    rw [runCommand_ok hw] at hrun
    exact inv_exec h hwf hrun
  | error e =>
    cases e with
    | illegalOp => rw [runCommand_illegalOp hw] at hrun; cases hrun; exact inv_raiseFault h _ w
    | reserved => rw [runCommand_reserved hw] at hrun; cases hrun; exact inv_raiseFault h _ w

end

/-! ### Reset -/

theorem voiceInv_resetOf {vc : VoiceConfig} (h : vc.Limits) : VoiceInv vc (VoiceState.resetOf vc) := by
  obtain ⟨hwaves, -, hocts, -⟩ := h
  exact ⟨hwaves, hocts, rfl⟩

theorem rampInv_resetOf (ramp : Nat) (x : Int) : RampInv ramp (RampUnit.resetOf x) :=
  ⟨Nat.zero_le _, ⟨min_le_left _ _, le_max_left _ _⟩, fun _ => rfl, nofun⟩

/-- The knobs are at position 0 after reset, where the maps have their least value (R54). -/
theorem knobInv_resetOf (c : Config) : KnobInv (State.resetOf c) := by
  constructor
  · simp [State.resetOf, RampUnit.resetOf, modTarget]
  · simp [State.resetOf, RampUnit.resetOf, filtTarget]

theorem inv_resetOf {c : Config} (h : c.WellFormed) : Inv (State.resetOf c) where
  cfg_wf := h
  voice1 := voiceInv_resetOf (limits_voice h.limits .one)
  voice2 := voiceInv_resetOf (limits_voice h.limits .two)
  modUnit := rampInv_resetOf _ _
  cutUnit := rampInv_resetOf _ _
  env := ⟨Nat.zero_le _, Nat.zero_le _, Nat.zero_le _, fun _ => rfl, nofun, nofun⟩
  fault := ⟨fun _ => ⟨rfl, rfl⟩, nofun⟩
  notStarted := ⟨fun _ => rfl, fun _ => rfl, fun _ => rfl⟩
  timer := ⟨Nat.zero_le _, fun _ => rfl⟩
  knobs := knobInv_resetOf c

/-- Settles O54: the table of R54 meets every part of the invariant, and T is a DVE. -/
theorem resetStateMeetsTheInvariant : Obligations.ResetStateMeetsTheInvariant :=
  ⟨fun _ h => inv_resetOf h, inv_resetOf Laws.testT_wellFormed⟩

end Sys2Proof.Proofs.InvariantCommands
end

section
/-! PROOFS. The invariant of DVE through a tick (42_tick.md R180 to R187), and through every step. -/

namespace Sys2Proof.Proofs.InvariantSteps

open Sys2Proof Sys2Proof.Machine Sys2Proof.Claims
open Sys2Proof.Proofs.TickUnits (toNat_add_one toNat_ofInt_linearRamp advanceRamp_of_rest advanceRamp_of_flight)
open Sys2Proof.Proofs.TickEnvelope
open Sys2Proof.Proofs.InvariantCommands

/-! ### The ramps (R181) -/

/-- A ramp in flight moves one tick along its line, and is at rest at the end of it. -/
theorem rampInv_advanceRamp {ramp : Nat} {u : RampUnit} (hramp : ramp < 2 ^ 16) (h : RampInv ramp u) :
    RampInv ramp (advanceRamp ramp u) := by
  cases hact : u.act with
  | false => rwa [advanceRamp_of_rest hact]
  | true =>
    obtain ⟨hrc, -⟩ := h.flying hact
    have hcount : (u.rc + 1).toNat = u.rc.toNat + 1 := toNat_add_one (by omega)
    have hcur := toNat_ofInt_linearRamp u.start u.tgt (k := u.rc.toNat + 1) (n := ramp) (by omega) hrc
    have hbetween := linearRamp_between (u.start.toNat : Int) u.tgt.toNat (k := u.rc.toNat + 1) (n := ramp)
      (by omega) hrc
    rw [advanceRamp_of_flight hact, hcount]
    refine ⟨hcount.trans_le hrc, by dsimp only; omega, fun hrest => ?_, fun hfly => ?_⟩
    · have hend : u.rc.toNat + 1 = ramp := by simpa using hrest
      rw [hend, linearRamp_end _ _ (by omega), BitVec.ofInt_natCast, BitVec.ofNat_toNat, BitVec.setWidth_eq]
    · have hmid : u.rc.toNat + 1 ≠ ramp := by simpa using hfly
      exact ⟨hcount.trans_lt (by omega), by rw [hcount]; exact hcur⟩

/-! ### The envelope (R183 to R186) -/

section
variable {s : State}

/-- In RELEASING a tick writes the decayed gain, and ends the release where that is 0 (R186). -/
theorem tickEvent_of_releasing (h : s.envState = .releasing) :
    (tickEvent s).envCnt = s.envCnt ∧ (tickEvent s).env = decayGain s.cfg s.env ∧
    (tickEvent s).envState = if decayGain s.cfg s.env = 0 then .idle else .releasing := by
  obtain ⟨htstate, htenv, htcnt⟩ := tickEvent_envelope s
  rw [htstate, htenv, htcnt, envStep_of_releasing h]
  exact ⟨rfl, rfl, rfl⟩

/-- In IDLE a tick leaves the envelope alone (R185). -/
theorem tickEvent_of_idle (h : s.envState = .idle) :
    (tickEvent s).envCnt = s.envCnt ∧ (tickEvent s).env = s.env ∧ (tickEvent s).envState = .idle := by
  obtain ⟨htstate, htenv, htcnt⟩ := tickEvent_envelope s
  rw [htstate, htenv, htcnt, envStep_of_idle h]
  exact ⟨rfl, rfl, h⟩

/-- The gain does not rise while it decays. -/
theorem decayGain_le {c : Config} (hrmul : c.rmul < 2 ^ 32) (g : Gain) : (decayGain c g).toNat ≤ g.toNat := by
  rw [decayGain_toNat hrmul]
  exact Nat.div_le_of_le_mul (by rw [mul_comm]; exact Nat.mul_le_mul_right _ hrmul.le)

/-- A tick leads from each state of the envelope to one that meets what the invariant asks there. -/
theorem envInv_tickEvent (hlimits : s.cfg.Limits) (h : EnvInv s) : EnvInv (tickEvent s) := by
  obtain ⟨-, -, -, ⟨hattack, hhold, -⟩, ⟨hrmul, -⟩, -⟩ := hlimits
  have hcfg := tickEvent_cfg s
  have hattack' : (tickEvent s).cfg.attack = s.cfg.attack := congrArg Config.attack hcfg
  have hhold' : (tickEvent s).cfg.hold = s.cfg.hold := congrArg Config.hold hcfg
  have he0 : (tickEvent s).envE0.toNat ≤ gainOne := (tickEvent_envE0 s).symm ▸ h.envE0_le
  have hcnt_le := h.envCnt_le
  cases hstate : s.envState with
  | idle =>
    obtain ⟨hcnt, henv, hnext⟩ := tickEvent_of_idle hstate
    exact envInv_of_idle hnext (henv.trans (h.idle hstate)) he0 (by rw [hcnt, hcfg]; exact hcnt_le)
  | attacking =>
    obtain ⟨hpos, hlt, -⟩ := h.attacking hstate
    obtain ⟨hcnt, henv, hnext⟩ := tickEvent_of_attacking hstate hlt hattack h.envE0_le
    by_cases hend : s.envCnt.toNat + 1 = s.cfg.attack
    · rw [if_pos hend] at hnext
      rw [hend, attackGain_end h.envE0_le hpos] at henv
      by_cases hholds : 0 < s.cfg.hold
      · exact envInv_of_holding (hnext.trans (if_pos hholds)) he0 henv (by omega) (by omega)
      · exact envInv_of_releasing (hnext.trans (if_neg hholds)) henv.le he0 (by omega)
    · rw [if_neg hend] at hnext
      refine envInv_of_attacking hnext he0 (by omega) ?_
      rw [henv, hcnt, hcfg, tickEvent_envE0, linearRamp_eq_attackGain h.envE0_le]
  | holding =>
    obtain ⟨-, hone, hlo, hhi⟩ := h.holding hstate
    obtain ⟨hcnt, henv, hnext⟩ := tickEvent_of_holding hstate hhi (by omega)
    rw [← henv] at hone
    by_cases hend : s.envCnt.toNat + 1 = s.cfg.attack + s.cfg.hold
    · exact envInv_of_releasing (hnext.trans (if_pos hend)) hone.le he0 (by omega)
    · exact envInv_of_holding (hnext.trans (if_neg hend)) he0 hone (by omega) (by omega)
  | releasing =>
    obtain ⟨hcnt, henv, hnext⟩ := tickEvent_of_releasing hstate
    have hgain : (tickEvent s).env.toNat ≤ gainOne := henv ▸ (decayGain_le hrmul s.env).trans h.env_le
    have htcnt : (tickEvent s).envCnt.toNat ≤ (tickEvent s).cfg.attack + (tickEvent s).cfg.hold := by
      rw [hcnt, hcfg]
      exact hcnt_le
    by_cases hzero : decayGain s.cfg s.env = 0
    · exact envInv_of_idle (hnext.trans (if_pos hzero)) (henv.trans hzero) he0 htcnt
    · exact envInv_of_releasing (hnext.trans (if_neg hzero)) hgain he0 htcnt

/-! ### The timer, and an engine that is not started -/

/-- The timer of a tick, by the timer it finds (R187). -/
theorem tickEvent_timer_idle (h : s.visPend = false) :
    (tickEvent s).vis = s.vis ∧ (tickEvent s).visPend = false ∧ (tickEvent s).visoff = s.visoff := by
  obtain ⟨hvis, hpend, hoff⟩ := tickEvent_timer s
  rw [hvis, hpend, hoff, visStep, h]
  exact ⟨rfl, h, rfl⟩

theorem tickEvent_timer_expires (h : s.visPend = true) (hle : s.vis.toNat ≤ 1) :
    (tickEvent s).vis = 0 ∧ (tickEvent s).visPend = false ∧ (tickEvent s).visoff = true := by
  obtain ⟨hvis, hpend, hoff⟩ := tickEvent_timer s
  rw [hvis, hpend, hoff, visStep, if_pos h, if_pos hle]
  exact ⟨rfl, rfl, rfl⟩

theorem tickEvent_timer_counts (h : s.visPend = true) (hlt : 1 < s.vis.toNat) :
    (tickEvent s).vis.toNat = s.vis.toNat - 1 ∧ (tickEvent s).visPend = true ∧ (tickEvent s).visoff = s.visoff := by
  obtain ⟨hvis, hpend, hoff⟩ := tickEvent_timer s
  have hcount : (s.vis - 1).toNat = s.vis.toNat - 1 := BitVec.toNat_sub_of_le (BitVec.le_def.mpr hlt.le)
  rw [hvis, hpend, hoff, visStep, if_pos h, if_neg hlt.not_ge]
  exact ⟨hcount, h, rfl⟩

/-- The timer counts down, and is 0 once it is not armed (R187). -/
theorem timerInv_tickEvent (h : TimerInv s) : TimerInv (tickEvent s) := by
  have hle := h.vis_le
  have hcfg := tickEvent_cfg s
  cases hpend : s.visPend with
  | false =>
    obtain ⟨hvis, hnext, -⟩ := tickEvent_timer_idle hpend
    exact timerInv_congr h (by rw [timerRegisters, hvis, hnext, hcfg, ← hpend]; rfl)
  | true =>
    rcases le_or_gt s.vis.toNat 1 with hend | hmid
    · obtain ⟨hvis, -⟩ := tickEvent_timer_expires hpend hend
      exact ⟨by rw [hvis]; exact Nat.zero_le _, fun _ => hvis⟩
    · obtain ⟨hvis, hnext, -⟩ := tickEvent_timer_counts hpend hmid
      exact ⟨by rw [hvis, hcfg]; omega, fun hclear => absurd (hclear.symm.trans hnext) Bool.false_ne_true⟩

/-- Before `START` a tick moves neither the envelope, nor the timer, nor the phase (R182, R185, R187). -/
theorem notStartedInv_tickEvent (h : NotStartedInv s) : NotStartedInv (tickEvent s) := by
  have hrun := tickEvent_run s
  constructor <;> intro hclear <;> rw [hrun] at hclear
  · obtain ⟨-, -, hstate⟩ := tickEvent_of_idle (h.envState_idle hclear)
    exact hstate
  · obtain ⟨-, hpend, -⟩ := tickEvent_timer_idle (h.no_timer hclear)
    exact hpend
  · rw [tickEvent_ph, hclear]
    exact h.phase_zero hclear

/-- A tick moves a ramp and keeps its target (R181). -/
theorem advanceRamp_tgt (ramp : Nat) (u : RampUnit) : (advanceRamp ramp u).tgt = u.tgt := by
  rw [advanceRamp]
  split <;> rfl

theorem knobInv_tickEvent (h : KnobInv s) : KnobInv (tickEvent s) := by
  refine knobInv_congr h ?_
  simp only [knobRegisters, tickEvent_cfg, tickEvent_modPos, tickEvent_filtPos, tickEvent_modUnit,
    tickEvent_cutUnit, advanceRamp_tgt]

/-- Every tick keeps the invariant. -/
theorem inv_tickEvent (h : Inv s) : Inv (tickEvent s) := by
  have hlimits := h.cfg_wf.limits
  obtain ⟨-, -, -, -, -, hramp, -⟩ := hlimits
  have hcfg := tickEvent_cfg s
  constructor
  case cfg_wf => exact hcfg ▸ h.cfg_wf
  case voice1 => rw [hcfg, tickEvent_voice1]; exact h.voice1
  case voice2 => rw [hcfg, tickEvent_voice2]; exact h.voice2
  case modUnit => rw [hcfg, tickEvent_modUnit]; exact rampInv_advanceRamp hramp h.modUnit
  case cutUnit => rw [hcfg, tickEvent_cutUnit]; exact rampInv_advanceRamp hramp h.cutUnit
  case env => exact envInv_tickEvent h.cfg_wf.limits h.env
  case fault => exact faultInv_congr h.fault (by simp only [faultRegisters, tickEvent_fault, tickEvent_fcode,
    tickEvent_fcmd])
  case notStarted => exact notStartedInv_tickEvent h.notStarted
  case timer => exact timerInv_tickEvent h.timer
  case knobs => exact knobInv_tickEvent h.knobs

/-! ### The step -/

theorem inv_resetEvent (h : Inv s) : Inv (resetEvent s) :=
  inv_congr (inv_resetOf h.cfg_wf) rfl rfl rfl rfl rfl rfl

theorem inv_runEvent {e : Event} {t : State} (h : Inv s) (hrun : runEvent e s = .next t) : Inv t := by
  cases e with
  | cmd w => exact inv_runCommand h hrun
  | tick => cases hrun; exact inv_tickEvent h
  | reset => cases hrun; exact inv_resetEvent h

/-- Settles O53: a step is idle or runs one event, and the start of an event, every command, a tick and the reset each
keep the invariant. -/
theorem everyStepKeepsTheInvariant : Obligations.EveryStepKeepsTheInvariant := by
  intro s t h hstep
  cases hin : s.input with
  | nil =>
    rw [step_nil hin] at hstep
    cases hstep
    exact inv_beginEvent h []
  | cons e rest =>
    rw [step_cons hin] at hstep
    exact inv_runEvent (inv_beginEvent h rest) hstep

end

end Sys2Proof.Proofs.InvariantSteps
end

section
/-! PROOFS. The step (20_memory.md R60, R61) and the fault record (60_exceptions.md): what a step can do, said once,
and that nothing but the read port looks at the record. -/

namespace Sys2Proof.Proofs.StepOutcome

open Sys2Proof Sys2Proof.Machine Sys2Proof.Claims
open Sys2Proof.Proofs.StateReset (step_reset)
open Sys2Proof.Proofs.EncodingWords (raiseFault_eq_recorded)
open Sys2Proof.Proofs.EngineCommands (step_decoded)
open Sys2Proof.Proofs.EncodeDecode (encodeOfDecodeIsTheWord)

/-! ### What a step can do -/

/-- Settles O7: the state the statement writes out is the one an event begins in. -/
theorem stepRunsTheDecodedCommand : Obligations.StepRunsTheDecodedCommand :=
  fun _ _ _ _ h hw => step_decoded h hw

/-- A command word is accepted, or raises a fault with that word: with `ILLEGAL_OP` or `RESERVED` if it does not
decode, and otherwise with a fault of its command, whose word it is (R83, R272). -/
theorem runCommand_outcome (w : Word) {s : State} (h : s.rdata = 0) :
    (∃ t, runCommand w s = .next t ∧ Accepted s t) ∨ ∃ c, runCommand w s = .next (raiseFault c w s) := by
  cases hw : decodeWord w with
  | ok i =>
    obtain ⟨henc, -⟩ := encodeOfDecodeIsTheWord w i hw
    rw [runCommand_ok hw]
    rcases exec_outcome i h with hacc | ⟨c, -, hc⟩
    · exact .inl hacc
    · exact .inr ⟨c, henc ▸ hc⟩
  | error e =>
    cases e with
    | illegalOp => exact .inr ⟨_, runCommand_illegalOp hw s⟩
    | reserved => exact .inr ⟨_, runCommand_reserved hw s⟩

/-- What an event other than reset does, from the state it begins in: a tick, an accepted command, or a fault of the
word. -/
inductive EventOutcome (s : State) (e : Event) (t : State) : Prop
  | tick (he : e = .tick) (ht : t = tickEvent s)
  | accepted (w : Word) (he : e = .cmd w) (h : Accepted s t)
  | faulted (w : Word) (he : e = .cmd w) (c : FaultCode) (ht : t = raiseFault c w s)

theorem step_outcome {s : State} {e : Event} {rest : List Event} (h : s.input = e :: rest) (he : e ≠ .reset) :
    ∃ t, step s = .next t ∧ EventOutcome (s.beginEvent rest) e t := by
  cases e with
  | reset => exact absurd rfl he
  | tick => exact ⟨_, step_tick h, .tick rfl rfl⟩
  | cmd w =>
    rw [step_cons h, runEvent]
    rcases runCommand_outcome w (beginEvent_rdata s rest) with ⟨t, ht, hacc⟩ | ⟨c, hc⟩
    · exact ⟨t, ht, .accepted w rfl hacc⟩
    · exact ⟨_, hc, .faulted w rfl c rfl⟩

section
variable {s t : State} {e : Event}

theorem eventOutcome_input (h : EventOutcome s e t) : t.input = s.input := by
  cases h with
  | tick _ ht => rw [ht, tickEvent_input]
  | accepted _ _ hacc => exact hacc.input
  | faulted _ _ _ ht => rw [ht, raiseFault_input]

theorem eventOutcome_cfg (h : EventOutcome s e t) : t.cfg = s.cfg := by
  cases h with
  | tick _ ht => rw [ht, tickEvent_cfg]
  | accepted _ _ hacc => exact hacc.cfg
  | faulted _ _ _ ht => rw [ht, raiseFault_cfg]

theorem eventOutcome_run (h : EventOutcome s e t) (hrun : s.run = true) : t.run = true := by
  cases h with
  | tick _ ht => rw [ht, tickEvent_run, hrun]
  | accepted _ _ hacc => exact hacc.run hrun
  | faulted _ _ _ ht => rw [ht, raiseFault_run, hrun]

theorem eventOutcome_bound (h : EventOutcome s e t) (hbound : s.bound = true) : t.bound = true := by
  cases h with
  | tick _ ht => rw [ht, tickEvent_bound, hbound]
  | accepted _ _ hacc => exact hacc.bound hbound
  | faulted _ _ _ ht => rw [ht, raiseFault_bound, hbound]

/-- A recorded fault stays as it is (R272, R273). -/
theorem eventOutcome_recorded (h : EventOutcome s e t) (hfault : s.fault = true) :
    t.fault = true ∧ t.fcode = s.fcode ∧ t.fcmd = s.fcmd := by
  cases h with
  | tick _ ht => rw [ht, tickEvent_fault, tickEvent_fcode, tickEvent_fcmd]; exact ⟨hfault, rfl, rfl⟩
  | accepted _ _ hacc => exact ⟨hacc.fault.trans hfault, hacc.fcode, hacc.fcmd⟩
  | faulted _ _ _ ht => rw [ht, raiseFault_of_set hfault]; exact ⟨hfault, rfl, rfl⟩

/-- The mode stays and there is no pulse, or the event is the toggle (R227). -/
theorem eventOutcome_mode (h : EventOutcome s e t) :
    (t.mode = s.mode ∧ t.redraw = s.redraw) ∨ t = toggleMode s := by
  cases h with
  | tick _ ht => rw [ht]; exact .inl ⟨tickEvent_mode s, tickEvent_redraw s⟩
  | accepted _ _ hacc => exact hacc.mode
  | faulted _ _ _ ht => rw [ht]; exact .inl ⟨rfl, rfl⟩

end

/-- Settles O8: an event begins with the trace behind it, and nothing writes the trace or the configuration. -/
theorem stepTakesOneEventAndKeepsTheConfiguration : Obligations.StepTakesOneEventAndKeepsTheConfiguration := by
  intro s
  cases hin : s.input with
  | nil => exact ⟨_, step_nil hin, rfl, rfl, fun _ => rfl⟩
  | cons e rest =>
    by_cases he : e = .reset
    · subst he
      exact ⟨_, step_reset hin, rfl, rfl, nofun⟩
    · obtain ⟨t, ht, hout⟩ := step_outcome hin he
      exact ⟨t, ht, eventOutcome_input hout, (eventOutcome_cfg hout :), nofun⟩

/-- Settles O9: a tick writes none of these registers, an accepted command clears none, and a fault after the first
changes nothing. -/
theorem onlyResetClearsRunBoundAndFault : Obligations.OnlyResetClearsRunBoundAndFault := by
  intro s e rest hin he
  obtain ⟨t, ht, hout⟩ := step_outcome hin he
  have hrun := eventOutcome_run hout
  have hbound := eventOutcome_bound hout
  have hrecorded := eventOutcome_recorded hout
  exact ⟨t, ht, hrun, hbound, hrecorded⟩

theorem flipMode_ne (m : Mode) : flipMode m ≠ m := by cases m <;> decide

/-- Settles O10: an event begins without a pulse, so it ends with one only if it is the toggle. -/
theorem modeChangesExactlyWithRedraw : Obligations.ModeChangesExactlyWithRedraw := by
  intro s e rest hin he
  obtain ⟨t, ht, hout⟩ := step_outcome hin he
  refine ⟨t, ht, ?_⟩
  rcases eventOutcome_mode hout with ⟨hmode, hredraw⟩ | rfl
  · have hnone : ¬ t.redraw = true := by simp [hredraw]
    exact ⟨iff_of_false (not_not.mpr hmode) hnone, fun hpulse => absurd hpulse hnone⟩
  · exact ⟨iff_of_true (flipMode_ne s.mode) rfl, fun _ => rfl⟩

/-- Settles O11: of the outcomes of a command word only a fault sets the record, which then holds the word. -/
theorem faultingCommandChangesOnlyTheRecord : Obligations.FaultingCommandChangesOnlyTheRecord := by
  intro s w rest hin hclear
  obtain ⟨t, ht, hout⟩ := step_outcome hin Event.noConfusion
  refine ⟨t, ht, fun hfault => ?_⟩
  cases hout with
  | tick he => cases he
  | accepted _ _ hacc => exact absurd ((hacc.fault.trans hclear).symm.trans hfault) Bool.false_ne_true
  | faulted _ he c hrec =>
    cases he
    obtain ⟨hlo, hhi⟩ := faultNumber_range c
    exact ⟨_, hlo, hhi, hrec.trans (raiseFault_eq_recorded c w _)⟩

/-! ### The record is written and not read -/

/-- The fault record and the read data, which no command but `RDREG` looks at (R273). -/
structure Record where
  fault : Bool
  fcode : BitVec 4
  fcmd : Word
  rdata : Word

/-- The record of a state. -/
def recordOf (s : State) : Record := ⟨s.fault, s.fcode, s.fcmd, s.rdata⟩

/-- The state with another record. -/
def withRecord (r : Record) (s : State) : State :=
  { s with fault := r.fault, fcode := r.fcode, fcmd := r.fcmd, rdata := r.rdata }

theorem withRecord_recordOf (s : State) : withRecord (recordOf s) s = s := rfl

/-- States that agree but for the record differ by the record alone. -/
theorem eq_withRecord {s s' : State} (h : withoutRecord s = withoutRecord s') : s' = withRecord (recordOf s') s := by
  cases s; cases s'
  simp only [withoutRecord, State.mk.injEq, true_and] at h
  simp only [withRecord, recordOf, State.mk.injEq, true_and]
  tauto

section
variable (r : Record) (s : State)

@[simp] theorem withRecord_run : (withRecord r s).run = s.run := rfl
@[simp] theorem withRecord_bound : (withRecord r s).bound = s.bound := rfl
@[simp] theorem withRecord_mode : (withRecord r s).mode = s.mode := rfl

@[simp] theorem withRecord_envState : (withRecord r s).envState = s.envState := rfl
@[simp] theorem withRecord_vis : (withRecord r s).vis = s.vis := rfl
@[simp] theorem withRecord_visPend : (withRecord r s).visPend = s.visPend := rfl

theorem doSetOpt_withRecord (opt : Nat) : doSetOpt opt (withRecord r s) = withRecord r (doSetOpt opt s) := by
  unfold doSetOpt selectBand
  split <;> split <;> rfl

end

/-- What a press does, whatever the record: the same update, which keeps the record, or the same fault. -/
theorem dispatch_withRecord (w : Word) (z : Zone) (a : Int) (s : State) :
    (∃ t, ∀ r, dispatch w z a (withRecord r s) = withRecord r t) ∨
    ∀ r, dispatch w z a (withRecord r s) = raiseFault .notStarted w (withRecord r s) := by
  by_cases hz : z = .toggle
  · exact .inl ⟨toggleMode s, fun r => by rw [hz, dispatch_toggle]; rfl⟩
  cases hmode : s.mode with
  | edit =>
    refine .inl ⟨doSetOpt (knobOf a).toNat s, fun r => ?_⟩
    rw [dispatch_edit (s := withRecord r s) hmode hz, doSetOpt_withRecord]
  | play =>
    cases z with
    | toggle => exact absurd rfl hz
    | osc =>
      have hosc (r : Record) := dispatch_play_osc (s := withRecord r s) hmode w a
      cases hrun : s.run with
      | true => exact .inl ⟨armVisOff (doHit (noteOf a) s), fun r => (hosc r).trans (if_pos hrun)⟩
      | false => exact .inr fun r => by rw [hosc, withRecord_run, hrun]; rfl
    | modSpeed =>
      exact .inl ⟨doSetMod (noteOf a).toNat s, fun r => dispatch_play_modSpeed (s := withRecord r s) hmode w a⟩
    | filtFreq =>
      exact .inl ⟨doSetFilt (noteOf a).toNat s, fun r => dispatch_play_filtFreq (s := withRecord r s) hmode w a⟩

/-- What a command does, whatever the record: the same update, which keeps the record, or the same fault. `RDREG` shows
the record itself and stands apart. -/
inductive Oblivious (i : Instr) (s : State) : Prop
  | updates (t : State) (h : ∀ r, exec i (withRecord r s) = .next (withRecord r t))
  | faults (c : FaultCode) (hc : c ∈ faultsOf i)
      (h : ∀ r, exec i (withRecord r s) = .next (raiseFault c (encode i) (withRecord r s)))

theorem oblivious_of_dispatch {i : Instr} {z : Zone} {a : Int} {s : State} (hc : .notStarted ∈ faultsOf i)
    (h : ∀ r, exec i (withRecord r s) = .next (dispatch (encode i) z a (withRecord r s))) : Oblivious i s := by
  rcases dispatch_withRecord (encode i) z a s with ⟨t, ht⟩ | hf
  · exact .updates t fun r => (h r).trans (congrArg Host.Outcome.next (ht r))
  · exact .faults .notStarted hc fun r => (h r).trans (congrArg Host.Outcome.next (hf r))

/-- Every command but `RDREG` is blind to the record (R273). -/
theorem oblivious_exec {i : Instr} (hi : ∀ a, i ≠ .rdreg a) (s : State) : Oblivious i s := by
  cases i with
  | nop => exact .updates s fun _ => rfl
  | start =>
    cases hrun : s.run with
    | false => exact .updates { s with run := true } fun r => by rw [exec, execStart, withRecord_run, hrun]; rfl
    | true =>
      exact .faults .doubleStart (by simp [faultsOf]) fun r => by
        rw [exec, execStart, withRecord_run, hrun]; rfl
  | bind =>
    cases hbound : s.bound with
    | false => exact .updates { s with bound := true } fun r => by rw [exec, execBind, withRecord_bound, hbound]; rfl
    | true =>
      exact .faults .doubleBind (by simp [faultsOf]) fun r => by
        rw [exec, execBind, withRecord_bound, hbound]; rfl
  | rdreg a => exact absurd rfl (hi a)
  | hit n =>
    cases hrun : s.run with
    | false => exact .faults .notStarted (by simp [faultsOf]) fun r => by rw [exec, execHit, withRecord_run, hrun]; rfl
    | true => exact .updates (doHit n s) fun r => by rw [exec, execHit, withRecord_run, hrun]; rfl
  | release =>
    cases hrun : s.run with
    | false =>
      exact .faults .notStarted (by simp [faultsOf]) fun r => by
        rw [exec, execRelease, withRecord_run, hrun]; rfl
    | true => exact .updates (doRelease s) fun r => by rw [exec, execRelease, withRecord_run, hrun]; rfl
  | setmod p => exact .updates (doSetMod p s) fun _ => rfl
  | setfilt p => exact .updates (doSetFilt p s) fun _ => rfl
  | setopt o => exact .updates (doSetOpt o s) fun r => congrArg Host.Outcome.next (doSetOpt_withRecord r s o)
  | setwave v j => exact .updates (voiceSetWave v j s) fun _ => by cases v <;> rfl
  | setoct v j => exact .updates (voiceSetOct v j s) fun _ => by cases v <;> rfl
  | setnote v n => exact .updates (voiceSetNote v n s) fun _ => by cases v <;> rfl
  | geom d => exact .updates { s with geomR := BitVec.ofNat 12 d } fun _ => rfl
  | ptr a d =>
    cases hbound : s.bound with
    | false =>
      exact .faults .notBound (by simp [faultsOf]) fun r => by
        rw [exec, execPtr, withRecord_bound, hbound]; rfl
    | true =>
      exact oblivious_of_dispatch (z := zoneOf d s.geomR.toNat) (a := a) (by simp [faultsOf]) fun r => by
        rw [exec, execPtr, withRecord_bound, if_pos hbound]; rfl
  | ang z a =>
    cases hbound : s.bound with
    | false =>
      exact .faults .notBound (by simp [faultsOf]) fun r => by
        rw [exec, execAng, withRecord_bound, hbound]; rfl
    | true =>
      exact oblivious_of_dispatch (z := z) (a := a) (by simp [faultsOf]) fun r => by
        rw [exec, execAng, withRecord_bound, if_pos hbound]
  | tilt f g =>
    cases hbound : s.bound with
    | false =>
      exact .faults .notBound (by simp [faultsOf]) fun r => by
        rw [exec, execTilt, withRecord_bound, hbound]; rfl
    | true =>
      cases hmode : s.mode with
      | play =>
        exact .updates (doSetFilt (tiltPos g).toNat (doSetMod (tiltPos f).toNat s)) fun r => by
          rw [exec, execTilt, withRecord_bound, withRecord_mode, if_pos hbound, hmode]; rfl
      | edit =>
        exact .updates s fun r => by
          rw [exec, execTilt, withRecord_bound, withRecord_mode, if_pos hbound, hmode]
  | pup =>
    cases hbound : s.bound with
    | false =>
      exact .faults .notBound (by simp [faultsOf]) fun r => by
        rw [exec, execPup, withRecord_bound, hbound]; rfl
    | true =>
      cases hmode : s.mode with
      | edit =>
        exact .updates s fun r => by
          rw [exec, execPup, withRecord_bound, withRecord_mode, if_pos hbound, hmode]
      | play =>
        cases hrun : s.run with
        | false =>
          exact .faults .notStarted (by simp [faultsOf]) fun r => by
            rw [exec, execPup, withRecord_bound, withRecord_mode, if_pos hbound, hmode, withRecord_run, hrun]; rfl
        | true =>
          exact .updates (doRelease s) fun r => by
            rw [exec, execPup, withRecord_bound, withRecord_mode, if_pos hbound, hmode, withRecord_run, hrun]; rfl

/-! ### The faults of a command (R286) -/

/-- `RDREG` writes the read data, and for an unmapped number the record (R150). -/
theorem exec_rdreg (a : Nat) (s : State) :
    (∃ v, regRead s a = some v ∧ exec (.rdreg a) s = .next { s with rdata := v }) ∨
    (regRead s a = none ∧
      exec (.rdreg a) s = .next (raiseFault .badReg (encode (.rdreg a)) { s with rdata := 0 })) := by
  rw [exec, execRdreg]
  cases hv : regRead s a with
  | some v => exact .inl ⟨v, rfl, rfl⟩
  | none => exact .inr ⟨rfl, rfl⟩

/-- The matrix lists the numbers of the command's faults. -/
theorem mayRaise_eq (i : Instr) : mayRaise i = (faultsOf i).map fun c => (faultNumber c).toNat := by
  cases i <;> rfl

theorem faultNumber_mem_mayRaise {i : Instr} {c : FaultCode} (h : c ∈ faultsOf i) :
    (faultNumber c).toNat ∈ mayRaise i := by
  rw [mayRaise_eq]
  exact List.mem_map_of_mem h

/-- Settles O12: an update keeps the record clear, and a fault records its own number. -/
theorem commandsRaiseOnlyTheirFaults : Obligations.CommandsRaiseOnlyTheirFaults := by
  intro i s hclear
  by_cases hi : ∃ a, i = .rdreg a
  · obtain ⟨a, rfl⟩ := hi
    rcases exec_rdreg a s with ⟨v, -, hexec⟩ | ⟨-, hexec⟩
    · exact ⟨_, hexec, fun hfault => absurd (hclear.symm.trans hfault) Bool.false_ne_true⟩
    · rw [raiseFault_of_clear (s := { s with rdata := 0 }) hclear] at hexec
      exact ⟨_, hexec, fun _ => faultNumber_mem_mayRaise (List.mem_singleton.mpr rfl)⟩
  · cases oblivious_exec (fun a ha => hi ⟨a, ha⟩) s with
    | updates t h => exact ⟨_, h (recordOf s), fun hfault => absurd (hclear.symm.trans hfault) Bool.false_ne_true⟩
    | faults c hc h =>
      have hexec := h (recordOf s)
      rw [withRecord_recordOf, raiseFault_of_clear hclear] at hexec
      exact ⟨_, hexec, fun _ => faultNumber_mem_mayRaise hc⟩

/-! ### A recorded fault and the next step (R273) -/

/-- Two outcomes that differ at most in the record, and not in the read data where `shown` holds. -/
def Agree (shown : Prop) (o o' : Host.Outcome State Fault Refusal) : Prop :=
  ∃ t t', o = .next t ∧ o' = .next t' ∧ withoutRecord t = withoutRecord t' ∧ (shown → t.rdata = t'.rdata)

section
variable (r : Record) (s : State)

/-- The three registers of the map that show the record (R50). -/
theorem regRead_withRecord {a : Nat} (h : a ∉ [1, 2, 3]) : regRead (withRecord r s) a = regRead s a := by
  unfold regRead
  split
  case h_2 | h_3 | h_4 => exact absurd (by decide) h
  all_goals rfl

/-- Whether its number is mapped or not, `RDREG` shows the map's value or 0, and beside that writes the record at
most (R150). -/
theorem exec_rdreg_shows (a : Nat) :
    ∃ t, exec (.rdreg a) s = .next t ∧ withoutRecord t = withoutRecord s ∧ t.rdata = (regRead s a).getD 0 := by
  rcases exec_rdreg a s with ⟨v, hv, hexec⟩ | ⟨hv, hexec⟩ <;> exact ⟨_, hexec, rfl, by rw [hv]; rfl⟩

theorem agree_rdreg (a : Nat) : Agree (a ∉ [1, 2, 3]) (exec (.rdreg a) s) (exec (.rdreg a) (withRecord r s)) := by
  obtain ⟨t, hexec, hframe, hshown⟩ := exec_rdreg_shows s a
  obtain ⟨t', hexec', hframe', hshown'⟩ := exec_rdreg_shows (withRecord r s) a
  refine ⟨t, t', hexec, hexec', hframe.trans hframe'.symm, fun h => ?_⟩
  rw [hshown, hshown', regRead_withRecord r s h]

theorem agree_exec {i : Instr} (hr : r.rdata = s.rdata) :
    Agree (i ∉ [.rdreg 1, .rdreg 2, .rdreg 3]) (exec i s) (exec i (withRecord r s)) := by
  by_cases hi : ∃ a, i = .rdreg a
  · obtain ⟨a, rfl⟩ := hi
    obtain ⟨t, t', ht, ht', hsame, hshown⟩ := agree_rdreg r s a
    exact ⟨t, t', ht, ht', hsame, fun h => hshown (by simpa using h)⟩
  · cases oblivious_exec (fun a ha => hi ⟨a, ha⟩) s with
    | updates t h => exact ⟨_, _, h (recordOf s), h r, rfl, fun _ => hr.symm⟩
    | faults c hc h => exact ⟨_, _, h (recordOf s), h r, rfl, fun _ => hr.symm⟩

/-- The words of the three commands that read the record. -/
theorem agree_runCommand (w : Word) (hr : r.rdata = s.rdata) :
    Agree (w ∉ [0x03000001#32, 0x03000002#32, 0x03000003#32]) (runCommand w s) (runCommand w (withRecord r s)) := by
  cases hw : decodeWord w with
  | ok i =>
    obtain ⟨henc, -⟩ := encodeOfDecodeIsTheWord w i hw
    obtain ⟨t, t', ht, ht', hsame, hshown⟩ := agree_exec r s (i := i) hr
    rw [runCommand_ok hw, runCommand_ok hw]
    refine ⟨t, t', ht, ht', hsame, fun h => hshown fun hmem => h ?_⟩
    exact henc ▸ List.mem_map_of_mem (f := encode) hmem
  | error e =>
    cases e with
    | illegalOp =>
      exact ⟨_, _, runCommand_illegalOp hw s, runCommand_illegalOp hw (withRecord r s), rfl, fun _ => hr.symm⟩
    | reserved =>
      exact ⟨_, _, runCommand_reserved hw s, runCommand_reserved hw (withRecord r s), rfl, fun _ => hr.symm⟩

theorem envStep_withRecord : envStep (withRecord r s) = withRecord r (envStep s) := by
  unfold envStep
  rw [withRecord_envState]
  cases s.envState <;> rfl

theorem visStep_withRecord : visStep (withRecord r s) = withRecord r (visStep s) := by
  unfold visStep
  rw [withRecord_visPend, withRecord_vis]
  split
  · split <;> rfl
  · rfl

/-- A tick keeps the record and does not look at it. -/
theorem tickEvent_withRecord : tickEvent (withRecord r s) = withRecord r (tickEvent s) := by
  rw [tickEvent, tickEvent, ← visStep_withRecord, ← envStep_withRecord]
  rfl

end

/-- Settles O13: the second state is the first with another record, an event begins with read data 0 in both, and each
kind of event agrees on such states. -/
theorem recordedFaultChangesNoBehaviour : Obligations.RecordedFaultChangesNoBehaviour := by
  intro s s' h
  obtain hs' : s' = withRecord (recordOf s') s := eq_withRecord h
  generalize recordOf s' = r at hs'
  subst hs'
  cases hin : s.input with
  | nil => exact ⟨_, _, step_nil hin, step_nil (s := withRecord r s) hin, rfl, fun _ => rfl⟩
  | cons e rest =>
    have hstep := step_cons hin
    have hstep' : step (withRecord r s) = runEvent e (withRecord { r with rdata := 0 } (s.beginEvent rest)) :=
      step_cons (s := withRecord r s) hin
    cases e with
    | reset => exact ⟨_, _, hstep, hstep', rfl, fun _ => rfl⟩
    | tick =>
      refine ⟨_, _, hstep, hstep', ?_, fun _ => ?_⟩ <;> rw [tickEvent_withRecord]
      · rfl
      · exact (tickEvent_rdata _).trans rfl
    | cmd w =>
      obtain ⟨t, t', ht, ht', hsame, hshown⟩ := agree_runCommand { r with rdata := 0 } (s.beginEvent rest) w rfl
      exact ⟨t, t', hstep.trans ht, hstep'.trans ht', hsame, fun hread => hshown (hread w rest rfl)⟩

end Sys2Proof.Proofs.StepOutcome
end

section
/-! PROOFS. The commands: `START` and `BIND` (41_engine.md R141, 43_decoder.md R225), the commands that need them, and
the decoder inputs of 43_decoder.md. -/

namespace Sys2Proof.Proofs.SurfaceCommands

open Sys2Proof Sys2Proof.Machine Sys2Proof.Claims
open Sys2Proof.Proofs.EncodingWords (raiseFault_eq_recorded)
open Sys2Proof.Proofs.EngineCommands (exec_hit doRelease_eq)

/-! ### Refused commands -/

/-- A command that answers a fault records it with its own word (R272, log 4). -/
theorem next_raiseFault_eq_recorded {i : Instr} {s : State} {c : FaultCode} (w : Word)
    (h : exec i s = .next (raiseFault c w s)) : exec i s = .next (recorded (faultNumber c).toNat w s) :=
  h.trans (congrArg Host.Outcome.next (raiseFault_eq_recorded c w s))

section
variable {s : State}

theorem exec_start_of_run (h : s.run = true) : exec .start s = .next (recorded 3 0x01000000 s) :=
  next_raiseFault_eq_recorded (c := .doubleStart) _ (by rw [exec, execStart, if_pos h]; rfl)

theorem exec_bind_of_bound (h : s.bound = true) : exec .bind s = .next (recorded 5 0x02000000 s) :=
  next_raiseFault_eq_recorded (c := .doubleBind) _ (by rw [exec, execBind, if_pos h]; rfl)

theorem exec_hit_of_not_run (h : s.run = false) (n : Int) :
    exec (.hit n) s = .next (recorded 4 (encode (.hit n)) s) :=
  next_raiseFault_eq_recorded (c := .notStarted) _ (by rw [exec, execHit, h]; rfl)

theorem exec_release_of_not_run (h : s.run = false) : exec .release s = .next (recorded 4 0x11000000 s) :=
  next_raiseFault_eq_recorded (c := .notStarted) _ (by rw [exec, execRelease, h]; rfl)

theorem exec_ptr_of_not_bound (h : s.bound = false) (a : Int) (d : Nat) :
    exec (.ptr a d) s = .next (recorded 6 (encode (.ptr a d)) s) :=
  next_raiseFault_eq_recorded (c := .notBound) _ (by rw [exec, execPtr, h]; rfl)

theorem exec_ang_of_not_bound (h : s.bound = false) (z : Zone) (a : Int) :
    exec (.ang z a) s = .next (recorded 6 (encode (.ang z a)) s) :=
  next_raiseFault_eq_recorded (c := .notBound) _ (by rw [exec, execAng, h]; rfl)

theorem exec_tilt_of_not_bound (h : s.bound = false) (f g : Int) :
    exec (.tilt f g) s = .next (recorded 6 (encode (.tilt f g)) s) :=
  next_raiseFault_eq_recorded (c := .notBound) _ (by rw [exec, execTilt, h]; rfl)

theorem exec_pup_of_not_bound (h : s.bound = false) : exec .pup s = .next (recorded 6 0x34000000 s) :=
  next_raiseFault_eq_recorded (c := .notBound) _ (by rw [exec, execPup, h]; rfl)

/-! ### Presses of a bound decoder -/

/-- `ANG` and `PTR` alike dispatch their zone and angle (R230, R231). -/
theorem exec_press {i : Instr} {z : Zone} {a : Int} (hbound : s.bound = true) (h : IsPress s i z a) :
    exec i s = .next (dispatch (encode i) z a s) := by
  obtain rfl | ⟨d, rfl, rfl⟩ := h
  · rw [exec, execAng, if_pos hbound]
  · rw [exec, execPtr, if_pos hbound]

/-- In PLAY mode of a started engine a press in zone OSC is a hit, with the timer loaded (R228, R229). -/
theorem exec_press_osc {i : Instr} {a : Int} (hbound : s.bound = true) (hrun : s.run = true) (hmode : s.mode = .play)
    (h : IsPress s i .osc a) : exec i s = .next (armVisOff (doHit (noteOf a) s)) := by
  rw [exec_press hbound h, dispatch_play_osc hmode, if_pos hrun]

/-- `PUP` of a bound decoder, by the mode (R234). -/
theorem exec_pup_edit (hbound : s.bound = true) (hmode : s.mode = .edit) : exec .pup s = .next s := by
  rw [exec, execPup, if_pos hbound, hmode]

theorem exec_pup_play (hbound : s.bound = true) (hmode : s.mode = .play) :
    exec .pup s = .next (if s.run then doRelease s else raiseFault .notStarted (encode .pup) s) := by
  rw [exec, execPup, if_pos hbound, hmode]

end

/-! ### `START` and `BIND` -/

/-- Settles O16: the test of `RUN` decides between the update and the fault. -/
theorem startSetsRunOnce : Obligations.StartSetsRunOnce :=
  fun s => ⟨fun h => by rw [exec, execStart, h]; rfl, exec_start_of_run⟩

/-- Settles O17: the test of `BOUND` decides between the update and the fault. -/
theorem bindSetsBoundOnce : Obligations.BindSetsBoundOnce :=
  fun s => ⟨fun h => by rw [exec, execBind, h]; rfl, exec_bind_of_bound⟩

/-- Settles O14: each command asks for `BOUND` first, and in PLAY mode a release and a hit ask for `RUN`. -/
theorem commandsBeforeBindOrStartFault : Obligations.CommandsBeforeBindOrStartFault := by
  intro s
  refine ⟨fun hbound => ?_, fun hrun => ⟨exec_hit_of_not_run hrun, exec_release_of_not_run hrun, ?_⟩⟩
  · exact ⟨exec_ptr_of_not_bound hbound, exec_ang_of_not_bound hbound, exec_tilt_of_not_bound hbound,
      exec_pup_of_not_bound hbound⟩
  · intro hbound hmode
    constructor
    · exact next_raiseFault_eq_recorded (c := .notStarted) _ (by rw [exec_pup_play hbound hmode, hrun]; rfl)
    · intro i a hpress
      refine next_raiseFault_eq_recorded (c := .notStarted) _ ?_
      rw [exec_press hbound hpress, dispatch_play_osc hmode, hrun]
      rfl

/-! ### The decoder inputs -/

/-- Settles O32: a radius of 12 bits is held as it is. -/
theorem geomRecordsTheRadius : Obligations.GeomRecordsTheRadius :=
  fun _ r hr => ⟨BitVec.ofNat 12 r, Nat.mod_eq_of_lt hr, rfl⟩

theorem flipMode_eq (m : Mode) : flipMode m = if m = .play then .edit else .play := by cases m <;> rfl

/-- Settles O33: the press is dispatched to the toggle, whatever the mode. -/
theorem togglePressFlipsTheMode : Obligations.TogglePressFlipsTheMode := by
  intro s i a hbound hpress
  rw [exec_press hbound hpress, dispatch_toggle, toggleMode, flipMode_eq]

/-- Settles O34: the press is dispatched to the option selector. -/
theorem editPressSelectsTheOption : Obligations.EditPressSelectsTheOption := by
  intro s i z a hbound hmode hzone hpress
  exact ⟨_, rfl, by rw [exec_press hbound hpress, dispatch_edit hmode hzone]⟩

/-- Settles O35: the press is dispatched to the hit, and then the timer is loaded with the note length. -/
theorem playPressHitsTheNote : Obligations.PlayPressHitsTheNote := by
  intro s i a hbound hrun hmode hpress
  exact ⟨_, exec_hit hrun _, exec_press_osc hbound hrun hmode hpress⟩

/-- Settles O36: the press is dispatched to the knob of its zone. -/
theorem playPressTurnsTheKnob : Obligations.PlayPressTurnsTheKnob := by
  intro s i a hbound hmode
  constructor <;> intro hpress <;> refine ⟨_, rfl, ?_⟩ <;> rw [exec_press hbound hpress]
  · rw [dispatch_play_modSpeed hmode]
  · rw [dispatch_play_filtFreq hmode]

/-- Settles O37: in PLAY mode both setters run, the first one's state the second one's start. -/
theorem tiltTurnsBothKnobs : Obligations.TiltTurnsBothKnobs := by
  intro s f g hbound
  constructor <;> intro hmode
  · exact ⟨_, _, rfl, rfl, by rw [exec, execTilt, if_pos hbound, hmode]⟩
  · rw [exec, execTilt, if_pos hbound, hmode]

/-- Settles O38: the command is `do_release` in PLAY mode and answers its state in EDIT mode. -/
theorem pupReleasesInPlayMode : Obligations.PupReleasesInPlayMode := by
  intro s hbound
  refine ⟨fun hmode hrun => ?_, exec_pup_edit hbound⟩
  rw [exec_pup_play hbound hmode, if_pos hrun, doRelease_eq]

end Sys2Proof.Proofs.SurfaceCommands
end

section
/-! PROOFS. The register map of the read port (10_state.md R50) and the option mask (40_voice.md R117). -/

namespace Sys2Proof.Proofs.ReadPort

open Sys2Proof Sys2Proof.Machine Sys2Proof.Claims
open Sys2Proof.Proofs.EncodingWords (raiseFault_eq_recorded)
open Sys2Proof.Proofs.VoiceCommands (limits_voice)
open Sys2Proof.Proofs.TickUnits (lfoOut_bounds)
open Sys2Proof.Proofs.InvariantCommands (toNat_ofNat_noteLen)
open Sys2Proof.Proofs.StepOutcome (exec_rdreg)

/-! ### Which numbers are mapped -/

/-- The map has a value at the mapped numbers and at no other (R50, R150). -/
theorem regRead_isSome_iff (s : State) (a : Nat) : (regRead s a).isSome = true ↔ Mapped a := by
  constructor
  · intro h
    unfold regRead at h
    unfold Mapped
    split at h
    case h_43 => cases h
    all_goals decide
  · rintro (h | ⟨hlo, hhi⟩ | ⟨hlo, hhi⟩ | ⟨hlo, hhi⟩ | ⟨hlo, hhi⟩ | ⟨hlo, hhi⟩ | ⟨hlo, hhi⟩) <;>
      interval_cases a <;> rfl

theorem regRead_of_not_mapped {a : Nat} (h : ¬ Mapped a) (s : State) : regRead s a = none := by
  rwa [← regRead_isSome_iff s, Option.not_isSome_iff_eq_none] at h

/-- The number of two fields put together. -/
theorem toNat_append_eq {m n : Nat} (x : BitVec m) (y : BitVec n) : (x ++ y).toNat = 2 ^ n * x.toNat + y.toNat := by
  rw [BitVec.toNat_append, ← Nat.shiftLeft_add_eq_or_of_lt y.isLt, Nat.shiftLeft_eq, mul_comm]

/-- The word of `RDREG` is its opcode byte and the register number (R82). -/
theorem encode_rdreg {a : Nat} (h : a < 256) : encode (.rdreg a) = BitVec.ofNat 32 (0x03000000 + a) := by
  have hopcode : (opcodeByte .rdreg).toNat = 3 := rfl
  apply BitVec.eq_of_toNat_eq
  rw [encode, Instr.opcode, Instr.payload, toNat_append_eq, toNat_append_eq, hopcode, BitVec.toNat_zero,
    BitVec.toNat_ofNat, BitVec.toNat_ofNat]
  omega

/-- Settles O18: the map answers the value shown, or none, and then the command faults with its own word. -/
theorem rdregReadsTheMap : Obligations.RdregReadsTheMap := by
  intro s a ha
  constructor <;> intro hmapped
  · rw [← regRead_isSome_iff s, Option.isSome_iff_exists] at hmapped
    obtain ⟨v, hv⟩ := hmapped
    exact ⟨v, hv, by rw [exec, execRdreg, hv]⟩
  · rw [exec, execRdreg, regRead_of_not_mapped hmapped, raiseFault_eq_recorded, encode_rdreg ha]
    rfl

/-! ### The values -/

theorem toNat_envStateCode (e : EnvState) : (envStateCode e).toNat = envNumber e := by cases e <;> rfl

theorem toNat_modeBit (m : Mode) : (modeBit m).toNat = if m = .edit then 1 else 0 := by cases m <;> rfl

/-- `STATUS` is the sum of its bits (R50). -/
theorem statusWord_toNat (s : State) : (statusWord s).toNat = statusNumber s := by
  simp only [statusWord, statusNumber, toNat_append_eq, BitVec.toNat_ofBool, toNat_envStateCode, toNat_modeBit,
    BitVec.toNat_zero]
  ring

theorem selWord_toNat (x : VoiceState) : (selWord x).toNat = x.widx.toNat + 16 * x.oidx.toNat := by
  simp only [selWord, toNat_append_eq, BitVec.toNat_zero]
  ring

/-- A register shown in a wider word keeps its value. -/
theorem toNat_setWidth_word {w : Nat} {x : BitVec w} (hw : w ≤ 32) : (x.setWidth 32).toNat = x.toNat :=
  BitVec.toNat_setWidth_of_le hw

/-- A parameter below `2^32` is shown as it is. -/
theorem toNat_ofNat_word {n : Nat} (h : n < 2 ^ 32) : (BitVec.ofNat 32 n).toNat = n := Nat.mod_eq_of_lt h

/-- Every entry of an octave set is at most 255, and 0 stands for an index outside it (R5, log 6). -/
theorem octMulAt_lt {vc : VoiceConfig} (h : vc.Limits) (i : Nat) : octMulAt vc i < 2 ^ 32 := by
  obtain ⟨-, -, -, -, hentries, -⟩ := h
  rw [octMulAt, List.getD_eq_getElem?_getD]
  cases hi : vc.octSet[i]? with
  | none => exact Nat.two_pow_pos 32
  | some m =>
    obtain ⟨-, hle⟩ := hentries m (List.mem_of_getElem? hi)
    rw [Option.getD_some]
    omega

/-- The unsigned registers of the map, in its order. -/
theorem regRead_registerValues {s : State} (h : s.cfg.Limits) :
    ∀ p ∈ registerValues s, ∃ v, regRead s p.1 = some v ∧ v.toNat = p.2 := by
  have hlen := toNat_ofNat_noteLen h
  have hoct₁ := octMulAt_lt (limits_voice h .one) s.voice1.oidx.toNat
  have hoct₂ := octMulAt_lt (limits_voice h .two) s.voice2.oidx.toNat
  obtain ⟨⟨-, hfs⟩, -, -, ⟨hattack, hhold, hrelease⟩, ⟨hrmul, -⟩, hramp, -, -, -, -, hdepth, hmaster, -⟩ := h
  have hone : gainOne < 2 ^ 32 := by decide
  simp only [registerValues, List.forall_mem_cons]
  exact ⟨
    ⟨_, rfl, rfl⟩,
    ⟨_, rfl, statusWord_toNat s⟩,
    ⟨_, rfl, toNat_setWidth_word (x := s.fcode) (by decide)⟩,
    ⟨_, rfl, rfl⟩,
    ⟨_, rfl, toNat_setWidth_word (x := s.env) (by decide)⟩,
    ⟨_, rfl, toNat_setWidth_word (x := s.envCnt) (by decide)⟩,
    ⟨_, rfl, toNat_setWidth_word (x := s.envE0) (by decide)⟩,
    ⟨_, rfl, rfl⟩,
    ⟨_, rfl, toNat_setWidth_word (x := s.geomR) (by decide)⟩,
    ⟨_, rfl, selWord_toNat s.voice1⟩,
    ⟨_, rfl, toNat_setWidth_word (x := waveKind s .one) (by decide)⟩,
    ⟨_, rfl, toNat_ofNat_word hoct₁⟩,
    ⟨_, rfl, rfl⟩,
    ⟨_, rfl, toNat_setWidth_word (x := optMask s .one) (by decide)⟩,
    ⟨_, rfl, selWord_toNat s.voice2⟩,
    ⟨_, rfl, toNat_setWidth_word (x := waveKind s .two) (by decide)⟩,
    ⟨_, rfl, toNat_ofNat_word hoct₂⟩,
    ⟨_, rfl, rfl⟩,
    ⟨_, rfl, toNat_setWidth_word (x := optMask s .two) (by decide)⟩,
    ⟨_, rfl, toNat_setWidth_word (x := s.modPos) (by decide)⟩,
    ⟨_, rfl, rfl⟩,
    ⟨_, rfl, rfl⟩,
    ⟨_, rfl, rfl⟩,
    ⟨_, rfl, toNat_setWidth_word (x := s.filtPos) (by decide)⟩,
    ⟨_, rfl, rfl⟩,
    ⟨_, rfl, rfl⟩,
    ⟨_, rfl, rfl⟩,
    ⟨_, rfl, toNat_ofNat_word (by omega)⟩,
    ⟨_, rfl, toNat_ofNat_word (by omega)⟩,
    ⟨_, rfl, toNat_ofNat_word (by omega)⟩,
    ⟨_, rfl, hlen⟩,
    ⟨_, rfl, toNat_ofNat_word (by omega)⟩,
    ⟨_, rfl, toNat_ofNat_word (by omega)⟩,
    ⟨_, rfl, toNat_ofNat_word (by omega)⟩,
    ⟨_, rfl, toNat_setWidth_word (x := s.cfg.qCfg) (by decide)⟩,
    ⟨_, rfl, (toNat_setWidth_word (by decide)).trans (BitVec.toNat_ofBool s.cfg.hpEn)⟩,
    ⟨_, rfl, rfl⟩,
    ⟨_, rfl, toNat_ofNat_word (by omega)⟩,
    ⟨_, rfl, toNat_ofNat_word (by omega)⟩,
    fun _ hnil => nomatch hnil⟩

/-- Settles O19: the unsigned registers one by one; a note is extended by its sign, and `LFO_OUT`, which never exceeds
the depth, fits a signed word. -/
theorem registerMapPresentsTheState : Obligations.RegisterMapPresentsTheState := by
  intro s h
  have hnote (n : BitVec 8) : (n.signExtend 32).toInt = n.toInt := BitVec.toInt_signExtend_of_le (by decide)
  refine ⟨regRead_registerValues h, ⟨_, rfl, hnote _⟩, ⟨_, rfl, hnote _⟩, ⟨_, rfl, ?_⟩,
    fun a ha => regRead_of_not_mapped ha s⟩
  obtain ⟨hlo, hhi⟩ := lfoOut_bounds h
  obtain ⟨-, -, -, -, -, -, -, -, -, -, hdepth, -⟩ := h
  exact BitVec.toInt_ofInt_eq_self (by decide) (by omega) (by omega)

/-! ### The option mask -/

theorem getLsbD_flag (n b : Nat) : (1#16 <<< n).getLsbD b = decide (b < 16 ∧ b = n) := by
  have hpow := BitVec.getLsbD_twoPow (w := 16) n b
  rw [BitVec.twoPow] at hpow
  rw [hpow, ← Bool.decide_and, decide_eq_decide]
  omega

/-- The mask is the two flags (R117). -/
theorem getLsbD_optMask (s : State) (v : Voice) (b : Nat) :
    (optMask s v).getLsbD b = decide (b < 16 ∧ (b = (s.voice v).widx.toNat ∨
      b = (s.cfg.voice v).waveSet.length + (s.voice v).oidx.toNat)) := by
  rw [optMask, BitVec.getLsbD_or, getLsbD_flag, getLsbD_flag, ← Bool.decide_or, decide_eq_decide, and_or_left]

/-- Settles O30: the flags stand below bit 16, the first below `NW_v`, the second from there on. -/
theorem optionMaskFlagsTheSelection : Obligations.OptionMaskFlagsTheSelection := by
  intro s v h hv
  obtain ⟨-, hwaves, -, hocts, -⟩ := limits_voice h v
  obtain ⟨hwidx, hoidx, -⟩ := hv
  refine ⟨fun i hi => ?_, fun j hj => ?_, fun b hb => ?_⟩ <;> rw [getLsbD_optMask]
  · rw [decide_eq_decide]; omega
  · rw [decide_eq_decide]; omega
  · rw [decide_eq_false_iff_not]; omega

end Sys2Proof.Proofs.ReadPort
end

section
/-! PROOFS. The pitch law over the notes (40_voice.md R121) and the knob maps read backwards (41_engine.md R155). -/

namespace Sys2Proof.Proofs.MapLaws

open Sys2Proof Sys2Proof.Machine Sys2Proof.Claims
open Sys2Proof.Proofs.VoiceCommands (rawPitch_eq_floor pitch_toNat)

/-! ### The pitch rises with the note -/

/-- The ratio of a note to the root, times the scale of `SEMI` (R112, R113). -/
def noteRatio (n : Int) : ℚ := semiAt (n % 12).toNat * 2 ^ (n / 12)

theorem semiAt_mono_succ : ∀ k < 11, semiAt k ≤ semiAt (k + 1) := by decide

/-- The table is rising, and its last entry is below the octave of its first (R112). -/
theorem noteRatio_le_succ (n : Int) : noteRatio n ≤ noteRatio (n + 1) := by
  have hpow : (0 : ℚ) < 2 ^ (n / 12) := by positivity
  rcases eq_or_ne (n % 12) 11 with hlast | hinner
  · have hrem : (n + 1) % 12 = 0 := by omega
    have hquot : (n + 1) / 12 = n / 12 + 1 := by omega
    have hoct : semiAt 11 ≤ semiAt 0 * 2 := by decide
    rw [noteRatio, noteRatio, hlast, hrem, hquot, zpow_add_one₀ two_ne_zero,
      mul_comm (2 ^ (n / 12) : ℚ) 2, ← mul_assoc]
    exact mul_le_mul_of_nonneg_right (by exact_mod_cast hoct) hpow.le
  · have hrem : ((n + 1) % 12).toNat = (n % 12).toNat + 1 := by omega
    have hquot : (n + 1) / 12 = n / 12 := by omega
    rw [noteRatio, noteRatio, hrem, hquot]
    exact mul_le_mul_of_nonneg_right (by exact_mod_cast semiAt_mono_succ _ (by omega)) hpow.le

theorem noteRatio_mono : Monotone noteRatio := monotone_int_of_le_succ noteRatio_le_succ

theorem rawPitch_eq_floor_noteRatio (vc : VoiceConfig) (n : Int) (oidx : Nat) :
    (rawPitch vc n oidx : ℤ) = ⌊(vc.base * octMulAt vc oidx : ℕ) * noteRatio n / 2 ^ 30⌋ := by
  rw [rawPitch_eq_floor, noteRatio]
  push_cast
  ring_nf

theorem rawPitch_mono (vc : VoiceConfig) (oidx : Nat) {n m : Int} (h : n ≤ m) :
    rawPitch vc n oidx ≤ rawPitch vc m oidx := by
  zify
  rw [rawPitch_eq_floor_noteRatio, rawPitch_eq_floor_noteRatio]
  gcongr
  exact noteRatio_mono h

/-! ### Whole octaves -/

/-- Whole octaves above the root the semitone is the scale of `SEMI` itself, so nothing is rounded (R113). -/
theorem rawPitch_octaves (vc : VoiceConfig) (m oidx : Nat) :
    rawPitch vc (12 * m) oidx = vc.base * octMulAt vc oidx * 2 ^ m := by
  have hrem : (12 * (m : Int) % 12).toNat = 0 := by omega
  have hquot : 12 * (m : Int) / 12 = m := by omega
  have hroot : semiAt 0 = 2 ^ 30 := rfl
  have hprod : vc.base * 2 ^ 30 * octMulAt vc oidx * 2 ^ m = vc.base * octMulAt vc oidx * 2 ^ m * 2 ^ 30 := by ring
  simp only [rawPitch]
  rw [hrem, hquot, hroot, if_pos m.cast_nonneg, Int.toNat_natCast, hprod, Nat.mul_div_cancel _ (Nat.two_pow_pos 30)]

/-- Settles O29: the saturated sum rises with the un-detuned pitch, and of whole octaves that fit it is the exact
product. -/
theorem pitchRisesAndOctavesAreExact : Obligations.PitchRisesAndOctavesAreExact := by
  constructor
  · intro vc n m oidx h
    have hraw := rawPitch_mono vc oidx h
    have hn := pitch_toNat vc n oidx
    have hm := pitch_toNat vc m oidx
    omega
  · intro vc m oidx hdetune hfits
    have hraw : rawPitch vc (12 * m) oidx = vc.base * vc.octSet.getD oidx 0 * 2 ^ m := rawPitch_octaves vc m oidx
    have hpitch := pitch_toNat vc (12 * m) oidx
    rw [hraw, hdetune] at hpitch
    omega

/-! ### The knob maps read backwards -/

/-- `clamp32` keeps a value that fits (R8). -/
theorem clamp32_toNat_of_fits {x : Int} (h₀ : 0 ≤ x) (h : x < 2 ^ 32) : ((clamp32 x).toNat : Int) = x := by
  rw [clamp32_toNat, clamp_of_mem h₀ (by omega)]

/-- Settles O31: where no clamp acts, the target less the map's least value is the square of `FILT_STEP * pos`, or the
product `MOD_STEP * pos`. -/
theorem knobPositionIsRecovered : Obligations.KnobPositionIsRecovered := by
  constructor
  · intro c pos hstep h₀ hfits
    have htgt : ((filtTarget c pos).toNat : Int) = c.filtMin + (c.filtStep * pos : Int) ^ 2 := by
      rw [filtTarget, Nat.cast_mul]
      exact clamp32_toNat_of_fits h₀ hfits
    have hsquare : (((filtTarget c pos).toNat : Int) - c.filtMin).toNat = c.filtStep * pos * (c.filtStep * pos) := by
      rw [htgt, add_sub_cancel_left, sq]
      exact Int.toNat_natCast (c.filtStep * pos * (c.filtStep * pos))
    rw [hsquare, Nat.sqrt_eq, Nat.mul_div_cancel_left _ hstep, Nat.mul_mod_right]
    exact ⟨rfl, rfl⟩
  · intro c pos hstep h₀ hfits
    have htgt : ((modTarget c pos).toNat : Int) = c.modMin + c.modStep * pos := clamp32_toNat_of_fits h₀ hfits
    rw [htgt, add_sub_cancel_left, Int.mul_ediv_cancel_left _ hstep]

end Sys2Proof.Proofs.MapLaws
end

section
/-! PROOFS. The rest of one tick (42_tick.md): the registers it keeps, the release and the visual-off timer; and ticks
alone after reset (70_reset_and_hazards.md R302). -/

namespace Sys2Proof.Proofs.TickRest

open Sys2Proof Sys2Proof.Machine Sys2Proof.Claims
open Sys2Proof.Proofs.TickEnvelope (decayGain_toNat)
open Sys2Proof.Proofs.InvariantSteps (tickEvent_of_idle tickEvent_of_releasing tickEvent_timer_idle
  tickEvent_timer_expires tickEvent_timer_counts)

/-- Settles O44: the tick's own frame, on the state its event begins in. -/
theorem tickLeavesTheRestAlone : Obligations.TickLeavesTheRestAlone := by
  intro s rest hin
  refine ⟨_, step_tick hin, ?_⟩
  simp only [tickEvent_run, tickEvent_bound, tickEvent_mode, tickEvent_voice1, tickEvent_voice2, tickEvent_modPos,
    tickEvent_filtPos, tickEvent_geomR, tickEvent_fault, tickEvent_fcode, tickEvent_fcmd, tickEvent_envE0,
    tickEvent_rdata, tickEvent_redraw, beginEvent_run, beginEvent_bound, beginEvent_mode, beginEvent_voice1,
    beginEvent_voice2, beginEvent_modPos, beginEvent_filtPos, beginEvent_geomR, beginEvent_fault, beginEvent_fcode,
    beginEvent_fcmd, beginEvent_envE0, beginEvent_rdata, beginEvent_redraw, true_and]
  intro hidle
  obtain ⟨hcnt, henv, hstate⟩ := tickEvent_of_idle (s := s.beginEvent rest) hidle
  exact ⟨hstate, henv, hcnt⟩

/-- A factor below 1 lowers every gain above 0 (R186). -/
theorem decay_lt {g r : Nat} (hr : r < 2 ^ 32) (hg : 1 ≤ g) : g * r / 2 ^ 32 < g :=
  Nat.div_lt_of_lt_mul (by rw [mul_comm]; exact Nat.mul_lt_mul_of_pos_right hr hg)

/-- Settles O49: the tick writes the decayed gain; `RMUL` is below `2^32`, and 0 for `RELEASE = 0`. -/
theorem tickInReleaseDecaysTheGain : Obligations.TickInReleaseDecaysTheGain := by
  intro s rest hinv hin hstate
  obtain ⟨-, -, -, -, ⟨hrmul, hzero⟩, -⟩ := hinv.cfg_wf.limits
  obtain ⟨hcnt, henv, hnext⟩ := tickEvent_of_releasing (s := s.beginEvent rest) hstate
  have hgain : (tickEvent (s.beginEvent rest)).env.toNat = s.env.toNat * s.cfg.rmul / 2 ^ 32 := by
    rw [henv]
    exact decayGain_toNat hrmul s.env
  refine ⟨_, step_tick hin, hcnt, tickEvent_envE0 _, hgain, fun hpos => ?_, fun hrelease => ?_, henv ▸ hnext⟩
  · rw [hgain]
    exact decay_lt hrmul hpos
  · apply BitVec.eq_of_toNat_eq
    rw [hgain, hzero hrelease, mul_zero]
    rfl

/-- Settles O50: the three cases of the timer's step. -/
theorem tickCountsTheVisualTimer : Obligations.TickCountsTheVisualTimer :=
  fun s rest hin => ⟨_, step_tick hin, tickEvent_timer_idle (s := s.beginEvent rest),
    tickEvent_timer_expires (s := s.beginEvent rest), tickEvent_timer_counts (s := s.beginEvent rest)⟩

/-- Before `START`, with no ramp in flight and no timer armed, a tick changes nothing (R302). -/
theorem tickEvent_resetOf (c : Config) (rest : List Event) :
    tickEvent { State.resetOf c with input := rest } = { State.resetOf c with input := rest } := rfl

/-- Settles O56: by induction on the number of ticks, each of which leaves the reset state. -/
theorem ticksAloneLeaveTheResetState : Obligations.TicksAloneLeaveTheResetState := by
  intro c k
  induction k with
  | zero => rfl
  | succ k ih =>
    have hstep : step { State.resetOf c with input := List.replicate (k + 1) .tick } =
        .next { State.resetOf c with input := List.replicate k .tick } :=
      (step_tick List.replicate_succ).trans (congrArg Host.Outcome.next (tickEvent_resetOf c _))
    rw [runSteps_succ k hstep, ih]

end Sys2Proof.Proofs.TickRest
end

section
/-! PROOFS. Runs of one command and the ticks after it: the 5% property of the release (42_tick.md R189), the flight of
a knob (41_engine.md R146, 42_tick.md R181) and the visual-off timer (42_tick.md R187, 43_decoder.md R229). -/

namespace Sys2Proof.Proofs.BoundedRuns

open Sys2Proof Sys2Proof.Machine Sys2Proof.Claims
open Sys2Proof.Proofs.EngineCommands (step_decoded)
open Sys2Proof.Proofs.TickUnits
open Sys2Proof.Proofs.TickEnvelope (Fading tickEvent_of_fading)
open Sys2Proof.Proofs.UndisturbedNote (runSteps_of_isHit gain_le_power)
open Sys2Proof.Proofs.EncodeDecode (decodeOfEncodeIsTheCommand)
open Sys2Proof.Proofs.InvariantCommands (toNat_ofNat_noteLen)
open Sys2Proof.Proofs.SurfaceCommands (exec_press_osc)
open Sys2Proof.Proofs.InvariantSteps (tickEvent_timer_idle tickEvent_timer_expires tickEvent_timer_counts)

/-! ### A command and the ticks after it -/

/-- What holds after the command and what every tick passes on holds `k` ticks later. -/
theorem runSteps_command_ticks {P : Nat → State → Prop} {s t : State} {i : Instr} {k : Nat}
    (hwf : i.wellFormed = true) (hin : s.input = .cmd (encode i) :: List.replicate k .tick)
    (hexec : exec i (s.beginEvent (List.replicate k .tick)) = .next t) (hinput : t.input = List.replicate k .tick)
    (start : P 0 t) (tick : ∀ j f rest, P j f → P (j + 1) (tickEvent (f.beginEvent rest))) :
    ∃ f, runSteps (k + 1) s = .next f ∧ P k f := by
  have hstep : step s = .next t := (step_decoded hin (decodeOfEncodeIsTheCommand i hwf)).trans hexec
  obtain ⟨f, hrun, hp, -⟩ := runSteps_ticks (P := P) (n := k) (fun j f rest _ hj _ => tick j f rest hj) start []
    le_rfl (by rw [hinput, List.append_nil])
  exact ⟨f, (runSteps_succ k hstep).trans hrun, hp⟩

/-! ### The release (R189) -/

theorem exp_neg_three_le : Real.exp (-3) ≤ 0.0498 := by
  have hcube : Real.exp (-3) = Real.exp (-1) ^ 3 := by rw [← Real.exp_nat_mul]; norm_num
  have hone := Real.exp_neg_one_lt_d9
  rw [hcube]
  calc Real.exp (-1) ^ 3 ≤ 0.3678794412 ^ 3 := by gcongr
    _ ≤ 0.0498 := by norm_num

/-- The factor of one tick of release (R33). -/
noncomputable def decayFactor (c : Config) : ℝ := c.rmul / 2 ^ 32

theorem decayFactor_nonneg (c : Config) : 0 ≤ decayFactor c := by
  unfold decayFactor
  positivity

/-- `RELEASE` ticks multiply by at most `exp(-3)`. -/
theorem decayFactor_pow_release_le {c : Config} (h : c.RmulTied) (hrelease : 1 ≤ c.release) :
    decayFactor c ^ c.release ≤ 0.0498 := by
  have hne : (c.release : ℝ) ≠ 0 := by positivity
  calc decayFactor c ^ c.release ≤ Real.exp (-3 / c.release) ^ c.release :=
        pow_le_pow_left₀ (decayFactor_nonneg c) (Laws.rmul_le_exp h (by omega)) _
    _ = Real.exp (-3) := by rw [← Real.exp_nat_mul, mul_div_cancel₀ _ hne]
    _ ≤ 0.0498 := exp_neg_three_le

/-- The power of R188 as a power of the factor. -/
theorem le_mul_decayFactor_pow {c : Config} {e g m : Nat} (h : e * (2 ^ 32) ^ m ≤ g * c.rmul ^ m) :
    (e : ℝ) ≤ g * decayFactor c ^ m := by
  rw [decayFactor, div_pow, ← mul_div_assoc, le_div_iff₀ (by positivity)]
  exact_mod_cast h

/-- `k` ticks into a decay from the gain `g`. -/
structure Decayed (c : Config) (g : Nat) (k : Nat) (f : State) : Prop where
  cfg : f.cfg = c
  fading : Fading f
  gain : (f.env.toNat : ℝ) ≤ g * decayFactor c ^ k

theorem decayed_tick {c : Config} {g k : Nat} {f : State} (hrmul : c.rmul < 2 ^ 32) (rest : List Event)
    (h : Decayed c g k f) : Decayed c g (k + 1) (tickEvent (f.beginEvent rest)) := by
  obtain ⟨rfl, hfading, hgain⟩ := h
  obtain ⟨htgain, htfading⟩ := tickEvent_of_fading (s := f.beginEvent rest) hfading hrmul
  refine ⟨tickEvent_cfg _, htfading, ?_⟩
  rw [htgain]
  calc ((f.env.toNat * f.cfg.rmul / 2 ^ 32 : ℕ) : ℝ)
      ≤ (f.env.toNat * f.cfg.rmul : ℕ) / (2 ^ 32 : ℕ) := Nat.cast_div_le
    _ = f.env.toNat * decayFactor f.cfg := by rw [decayFactor]; push_cast; ring
    _ ≤ g * decayFactor f.cfg ^ k * decayFactor f.cfg := mul_le_mul_of_nonneg_right hgain (decayFactor_nonneg _)
    _ = g * decayFactor f.cfg ^ (k + 1) := by rw [pow_succ, mul_assoc]

/-- Settles O58: each tick multiplies the gain by at most the factor, and `RELEASE` of the factors make at most
`exp(-3)`; a note is at most `ONE` when its decay begins. -/
theorem releaseDecaysBelowFivePercent : Obligations.ReleaseDecaysBelowFivePercent := by
  constructor
  · intro s hinv hstate hrelease hin
    obtain ⟨-, -, -, -, ⟨hrmul, -⟩, -⟩ := hinv.cfg_wf.limits
    have hfactor := decayFactor_pow_release_le hinv.cfg_wf.rmulTied hrelease
    have hstart : Decayed s.cfg s.env.toNat 0 s := ⟨rfl, .inl hstate, by rw [pow_zero, mul_one]⟩
    obtain ⟨f, hrun, ⟨-, -, hgain⟩, -⟩ := runSteps_ticks (P := Decayed s.cfg s.env.toNat)
      (fun _ _ rest _ h _ => decayed_tick hrmul rest h) hstart [] le_rfl (by rw [hin, List.append_nil])
    refine ⟨f, hrun, ?_⟩
    have hbound : (f.env.toNat : ℝ) ≤ s.env.toNat * 0.0498 :=
      hgain.trans (mul_le_mul_of_nonneg_left hfactor (Nat.cast_nonneg _))
    have hreal : (10000 * f.env.toNat : ℝ) ≤ 498 * s.env.toNat := by linarith
    exact_mod_cast hreal
  · intro s i hinv hhit hrelease hin
    obtain ⟨f, hrun, ⟨hcfg, hphase⟩⟩ := runSteps_of_isHit hinv hhit hin
    rw [← hcfg] at hrelease hphase
    have hfactor := decayFactor_pow_release_le (hcfg ▸ hinv.cfg_wf.rmulTied) hrelease
    refine ⟨f, hrun, ?_⟩
    have hbound : (f.env.toNat : ℝ) ≤ gainOne * 0.0498 :=
      (le_mul_decayFactor_pow (gain_le_power hphase rfl)).trans
        (mul_le_mul_of_nonneg_left hfactor (Nat.cast_nonneg _))
    have hreal : (20 * f.env.toNat : ℝ) < 16777216 := by
      norm_num [gainOne] at hbound
      linarith
    exact_mod_cast hreal

/-! ### The knobs (R146, R181) -/

/-- A ramp unit `k` ticks after a request for `new` found it at `a`: on the line, or at rest at the target. -/
structure RampAt (ramp : Nat) (a new : Hz12) (k : Nat) (u : RampUnit) : Prop where
  flying : k < ramp → u.act = true ∧ u.start = a ∧ u.tgt = new ∧ u.rc.toNat = k ∧
    (u.cur.toNat : Int) = linearRamp a.toNat new.toNat k ramp
  arrived : ramp ≤ k → u.act = false ∧ u.cur = new

theorem rampAt_requestRamp (ramp : Nat) (new : Hz12) (u : RampUnit) :
    RampAt ramp u.cur new 0 (requestRamp ramp new u) := by
  constructor
  · intro hramp
    rw [requestRamp, if_neg hramp.ne', linearRamp_zero]
    exact ⟨decide_eq_true hramp.ne', rfl, rfl, rfl, rfl⟩
  · intro hramp
    obtain rfl : ramp = 0 := Nat.le_zero.mp hramp
    exact ⟨rfl, rfl⟩

theorem rampAt_advanceRamp {ramp k : Nat} {a new : Hz12} {u : RampUnit} (hramp : ramp < 2 ^ 16)
    (h : RampAt ramp a new k u) : RampAt ramp a new (k + 1) (advanceRamp ramp u) := by
  rcases lt_or_ge k ramp with hlt | hge
  · obtain ⟨hact, rfl, rfl, rfl, -⟩ := h.flying hlt
    have hcount : (u.rc + 1).toNat = u.rc.toNat + 1 := toNat_add_one (by omega)
    rw [advanceRamp_of_flight hact, hcount]
    constructor
    · intro hmid
      exact ⟨decide_eq_true hmid.ne, rfl, rfl, hcount, toNat_ofInt_linearRamp u.start u.tgt (by omega) hmid.le⟩
    · intro hend
      obtain rfl : u.rc.toNat + 1 = ramp := by omega
      refine ⟨by simp, ?_⟩
      rw [linearRamp_end _ _ (Nat.succ_pos _), BitVec.ofInt_natCast, BitVec.ofNat_toNat, BitVec.setWidth_eq]
  · obtain ⟨hact, hcur⟩ := h.arrived hge
    rw [advanceRamp_of_rest hact]
    exact ⟨fun hlt => by omega, fun _ => ⟨hact, hcur⟩⟩

theorem tickEvent_rampUnit (u : RampId) (s : State) :
    (tickEvent s).rampUnit u = advanceRamp s.cfg.ramp (s.rampUnit u) := by
  cases u with
  | modRate => exact tickEvent_modUnit s
  | cutoff => exact tickEvent_cutUnit s

/-- The unit of a knob in flight or at rest, in a machine of the same configuration. -/
structure KnobAt (u : RampId) (s : State) (new : Hz12) (k : Nat) (f : State) : Prop where
  cfg : f.cfg = s.cfg
  unit : RampAt s.cfg.ramp (s.rampUnit u).cur new k (f.rampUnit u)

theorem knobAt_tick {u : RampId} {s f : State} {new : Hz12} {k : Nat} (hlimits : s.cfg.Limits) (rest : List Event)
    (h : KnobAt u s new k f) : KnobAt u s new (k + 1) (tickEvent (f.beginEvent rest)) := by
  obtain ⟨-, -, -, -, -, hramp, -⟩ := hlimits
  obtain ⟨hcfg, hunit⟩ := h
  refine ⟨(tickEvent_cfg _).trans hcfg, ?_⟩
  rw [tickEvent_rampUnit, beginEvent_cfg, hcfg]
  exact rampAt_advanceRamp hramp hunit

/-- A request and `k` ticks after it: in flight on the line, or at rest at the target. -/
theorem runSteps_of_request {u : RampId} {s t : State} {i : Instr} {new : Hz12} {k : Nat} (hinv : Inv s)
    (hwf : i.wellFormed = true) (hin : s.input = .cmd (encode i) :: List.replicate k .tick)
    (hexec : exec i (s.beginEvent (List.replicate k .tick)) = .next t) (hinput : t.input = List.replicate k .tick)
    (hcfg : t.cfg = s.cfg) (hunit : t.rampUnit u = requestRamp s.cfg.ramp new (s.rampUnit u)) :
    ∃ f, runSteps (k + 1) s = .next f ∧
      (k < s.cfg.ramp → (f.rampUnit u).act = true ∧
        ((f.rampUnit u).cur.toNat : Int) = linearRamp (s.rampUnit u).cur.toNat new.toNat k s.cfg.ramp) ∧
      (s.cfg.ramp ≤ k → (f.rampUnit u).act = false ∧ (f.rampUnit u).cur = new) := by
  have hstart : KnobAt u s new 0 t := ⟨hcfg, hunit ▸ rampAt_requestRamp _ _ _⟩
  obtain ⟨f, hrun, -, hflying, harrived⟩ := runSteps_command_ticks (P := KnobAt u s new) hwf hin hexec hinput hstart
    (fun _ _ rest h => knobAt_tick hinv.cfg_wf.limits rest h)
  refine ⟨f, hrun, fun hlt => ?_, harrived⟩
  obtain ⟨hact, -, -, -, hcur⟩ := hflying hlt
  exact ⟨hact, hcur⟩

/-- Settles O59: each setter requests its map's value of its unit. -/
theorem knobArrivesInItsWindow : Obligations.KnobArrivesInItsWindow := by
  intro s pos k hinv hpos
  constructor <;> intro hin
  · exact runSteps_of_request (u := .modRate) (i := .setmod pos) hinv (decide_eq_true hpos) hin rfl rfl rfl rfl
  · exact runSteps_of_request (u := .cutoff) (i := .setfilt pos) hinv (decide_eq_true hpos) hin rfl rfl rfl rfl

/-! ### The visual-off timer (R187, R229) -/

/-- The timer `k` ticks after it was loaded with `len`: it counts down to its pulse, which comes at the first tick if
`len` is 0. -/
inductive TimerAt (len k : Nat) (f : State) : Prop
  | pending (hk : k < max 1 len) (hpend : f.visPend = true) (hvis : f.vis.toNat = len - k) (hoff : f.visoff = false)
  | pulsed (hk : k = max 1 len) (hpend : f.visPend = false) (hoff : f.visoff = true)
  | past (hk : max 1 len < k) (hpend : f.visPend = false) (hoff : f.visoff = false)

theorem timerAt_armVisOff {s : State} (hlimits : s.cfg.Limits) (hoff : s.visoff = false) :
    TimerAt (noteLen s.cfg) 0 (armVisOff s) :=
  .pending (by omega) rfl (toNat_ofNat_noteLen hlimits) hoff

theorem timerAt_tick {len k : Nat} {f : State} (rest : List Event) (h : TimerAt len k f) :
    TimerAt len (k + 1) (tickEvent (f.beginEvent rest)) := by
  cases h with
  | pending hk hpend hvis =>
    by_cases hend : f.vis.toNat ≤ 1
    · obtain ⟨-, htpend, htoff⟩ := tickEvent_timer_expires (s := f.beginEvent rest) hpend hend
      exact .pulsed (by omega) htpend htoff
    · obtain ⟨htvis, htpend, htoff⟩ := tickEvent_timer_counts (s := f.beginEvent rest) hpend (not_le.mp hend)
      rw [beginEvent_vis] at htvis
      exact .pending (by omega) htpend (by omega) htoff
  | pulsed hk hpend =>
    obtain ⟨-, htpend, htoff⟩ := tickEvent_timer_idle (s := f.beginEvent rest) hpend
    exact .past (by omega) htpend htoff
  | past hk hpend =>
    obtain ⟨-, htpend, htoff⟩ := tickEvent_timer_idle (s := f.beginEvent rest) hpend
    exact .past (by omega) htpend htoff

/-- Settles O60: the press loads the timer with the note length, whatever it held, and each tick counts it down. -/
theorem newPressReplacesTheVisualTimer : Obligations.NewPressReplacesTheVisualTimer := by
  intro s i a k hinv hbound hrun hmode hwf hpress hk hin
  obtain ⟨f, hsteps, htimer⟩ := runSteps_command_ticks (P := TimerAt (noteLen s.cfg)) hwf hin
    (exec_press_osc (s := s.beginEvent _) hbound hrun hmode hpress) rfl
    (timerAt_armVisOff (s := doHit (noteOf a) (s.beginEvent _)) hinv.cfg_wf.limits rfl)
    (fun _ _ rest h => timerAt_tick rest h)
  refine ⟨f, hsteps, ?_⟩
  rw [← noteLen]
  cases htimer with
  | pending hlt hpend hvis hoff => simp [hpend, hoff]; omega
  | pulsed heq hpend hoff => simp [hpend, hoff]; omega
  | past hlt hpend hoff => simp [hpend, hoff]; omega

end Sys2Proof.Proofs.BoundedRuns
end
